-- ==== Sys2Proof/Config.lean ====
section
/-! DEFINITION. Config: what is fixed when the block is built (00_scope R4) and the free values, the environment's
inputs (00_scope R5, 60_exceptions R79). -/

namespace Sys2Proof.Config

/-- The default of the argument `SAMPLE_W`, the width of a sample and of a register entry (R4, D6). State, its parts
and every operation take the width as an argument; the host's machine is the one at the defaults (log entry 8). -/
@[simp] abbrev sampleW : Nat := 16

/-- The default of the argument `TIMER_W`, the width of `now` and of `ps` (R4, D4; log entry 8). -/
@[simp] abbrev timerW : Nat := 32

/-- `T_MEAS`: the measuring window in milliseconds (R4). -/
def tMeas : Nat := 50000

/-- `T_SET`: the settle window in milliseconds (R4). -/
def tSet : Nat := 10000

/-- `T_BO`: the retry backoff in milliseconds (R4). -/
def tBo : Nat := 1000

/-- `K`: millivolts per LSB, 0.1875 = 3/16 (R4). -/
def lsbMillivolts : Rat := 3 / 16

/-! The free draws: the level the environment puts on an input port at the edge with the given number. They have no
body, so nothing can be proved of a value (R5, R79; 93 U1 to U5, U9; log entry 2). -/

/-- The platform's `rst` at an edge. -/
opaque drawRst : Nat → Bool

/-- The platform's `step` at an edge. -/
opaque drawStep : Nat → Bool

/-- The time base's `now` of width `tw` at an edge. -/
opaque drawNow : (tw : Nat) → Nat → BitVec tw

/-- The front end's `samp[c]` of width `sw` at an edge: after the width come the edge and the channel. -/
opaque drawSamp : (sw : Nat) → Nat → Fin 8 → BitVec sw

/-- The client's `tx_done` at an edge. -/
opaque drawTxDone : Nat → Bool

/-- The client's `tx_ok` at an edge. -/
opaque drawTxOk : Nat → Bool

end Sys2Proof.Config
end

