-- ==== Sys2Proof/Word.lean ====
section
/-! DEFINITION. Word: the machine's words and the eight lanes of a register file or of a group of ports
(00_scope R6, 10_state R10). -/

namespace Sys2Proof

/-- A sample or register entry of `SAMPLE_W` bits: two's complement, bit 0 least significant (R4, R6). -/
abbrev Sample (sw : Nat := Config.sampleW) := BitVec sw

/-- A time in milliseconds of `TIMER_W` bits, unsigned, modulo `2 ^ TIMER_W` (R4, R6, R8). -/
abbrev Time (tw : Nat := Config.timerW) := BitVec tw

/-- A payload value, unsigned fixed point with four fraction bits (`PW = SW + 1`, R4, R47). -/
abbrev Payload (sw : Nat := Config.sampleW) := BitVec (sw + 1)

/-- The phase register's two bits (R13). -/
abbrev Phase := BitVec 2

/-- MEASURING (R13). -/
@[simp] abbrev Phase.meas : Phase := 0b00#2

/-- SETTLING (R13). -/
@[simp] abbrev Phase.settling : Phase := 0b01#2

/-- TRANSMITTING (R13). -/
@[simp] abbrev Phase.tx : Phase := 0b10#2

/-- The fourth value, which names no phase (R13). -/
@[simp] abbrev Phase.illegal : Phase := 0b11#2

/-- The decode vector `dv[6:0]` (R33). -/
abbrev DecodeVector := BitVec 7

/-- A channel number, `0 ≤ c < NCH = 8` (R4, R10). -/
abbrev Channel := Fin 8

/-- Eight like things, one per channel: lanes 0 to 7 (R10). -/
structure Lanes (α : Type) where
  c0 : α
  c1 : α
  c2 : α
  c3 : α
  c4 : α
  c5 : α
  c6 : α
  c7 : α
deriving DecidableEq, Repr

/-- What lane `c` holds. -/
def Lanes.get {α : Type} (l : Lanes α) : Channel → α
  | 0 => l.c0
  | 1 => l.c1
  | 2 => l.c2
  | 3 => l.c3
  | 4 => l.c4
  | 5 => l.c5
  | 6 => l.c6
  | 7 => l.c7

/-- The lanes whose lane `c` holds `f c`. -/
def Lanes.ofFn {α : Type} (f : Channel → α) : Lanes α :=
  ⟨f 0, f 1, f 2, f 3, f 4, f 5, f 6, f 7⟩

/-- The same value in every lane. -/
def Lanes.fill {α : Type} (a : α) : Lanes α :=
  Lanes.ofFn fun _ => a

/-- One function on every lane; no lane sees another (R43). -/
def Lanes.map {α β : Type} (f : α → β) (l : Lanes α) : Lanes β :=
  Lanes.ofFn fun c => f (l.get c)

/-- Two groups of lanes combined lane by lane; no lane sees another (R43). -/
def Lanes.zipWith {α β γ : Type} (f : α → β → γ) (l : Lanes α) (m : Lanes β) : Lanes γ :=
  Lanes.ofFn fun c => f (l.get c) (m.get c)

end Sys2Proof
end

