-- ==== Sys2Proof/Syntax.lean ====
section
/-! DEFINITION. Syntax: the operations, one constructor per row of the opcode map (30_encoding R36). No operation is
written with an operand: every operand is implicit (R34, R40). -/

namespace Sys2Proof

/-- What one edge with `rst = 0` does (R36); a constructor's docstring is its mnemonic. -/
inductive Instr where
  /-- IDLE -/
  | idle
  /-- SAMPLE -/
  | sample
  /-- END_MEASURE -/
  | endMeasure
  /-- SETTLE_WAIT -/
  | settleWait
  /-- END_SETTLE -/
  | endSettle
  /-- TX_WAIT -/
  | txWait
  /-- TX_OK -/
  | txOk
  /-- TX_FAIL -/
  | txFail
  /-- BO_WAIT -/
  | boWait
  /-- BO_END -/
  | boEnd
  /-- ILLEGAL -/
  | illegal
deriving DecidableEq, Repr

end Sys2Proof
end

