-- ==== Sys2Proof/WellFormed.lean ====
section
/-! DEFINITION. WellFormed: the checks on what is written down: the build parameters (00_scope R4), an operation, a
word of the opcode table (30_encoding R39). A tick script's check runs the machine and stands in
Machine/Script.lean (R41). -/

namespace Sys2Proof

/-- The ranges of the two parameters: `SAMPLE_W` at least 2, `TIMER_W` above 16 (spec/92, open parameters) and the
thresholds below `2 ^ TIMER_W` (R4). -/
def paramsOk (sw tw : Nat) : Bool :=
  2 ≤ sw && 16 < tw && Config.tMeas < 2 ^ tw && Config.tSet < 2 ^ tw && Config.tBo < 2 ^ tw

/-- An operation has no operand field that could be out of range (R34, R40), so each one is well formed. -/
def Instr.wellFormed : Instr → Bool
  | .idle => true
  | .sample => true
  | .endMeasure => true
  | .settleWait => true
  | .endSettle => true
  | .txWait => true
  | .txOk => true
  | .txFail => true
  | .boWait => true
  | .boEnd => true
  | .illegal => true

/-- Whether a number is a decode vector: seven bits (R33, R39). -/
def isDecodeWord (w : Nat) : Bool :=
  w < 2 ^ 7

end Sys2Proof
end

