-- ==== Sys2Proof/Decode.lean ====
section
/-! DEFINITION. Decode: the decode vector's fields, the opcode map as rows of match and mask, the decoder, and the
encoder (30_encoding R33 to R40). -/

namespace Sys2Proof

/-- `dv = {step, phase[1:0], bo, lt, tx_done, tx_ok}` (R33). -/
def assembleDv (step : Bool) (phase : Phase) (bo lt txDone txOk : Bool) : DecodeVector :=
  BitVec.ofBool step ++ phase ++ BitVec.ofBool bo ++ BitVec.ofBool lt ++ BitVec.ofBool txDone ++ BitVec.ofBool txOk

/-- Field `s`, `dv[6]` (R33). -/
def dvStep (dv : DecodeVector) : Bool := dv.getLsbD 6

/-- Field `p`, `dv[5:4]` (R33). -/
def dvPhase (dv : DecodeVector) : Phase := dv.extractLsb' 4 2

/-- Field `b`, `dv[3]` (R33). -/
def dvBo (dv : DecodeVector) : Bool := dv.getLsbD 3

/-- Field `l`, `dv[2]` (R33). -/
def dvLt (dv : DecodeVector) : Bool := dv.getLsbD 2

/-- Field `d`, `dv[1]` (R33). -/
def dvTxDone (dv : DecodeVector) : Bool := dv.getLsbD 1

/-- Field `k`, `dv[0]` (R33). -/
def dvTxOk (dv : DecodeVector) : Bool := dv.getLsbD 0

/-- The `match` column of the opcode map (R36). -/
def rowMatch : Instr → DecodeVector
  | .idle => 0x00#7
  | .sample => 0x44#7
  | .endMeasure => 0x40#7
  | .settleWait => 0x54#7
  | .endSettle => 0x50#7
  | .txWait => 0x60#7
  | .txOk => 0x63#7
  | .txFail => 0x62#7
  | .boWait => 0x6C#7
  | .boEnd => 0x68#7
  | .illegal => 0x70#7

/-- The `mask` column of the opcode map (R36): a 0 bit is a don't-care. -/
def rowMask : Instr → DecodeVector
  | .idle => 0x40#7
  | .sample => 0x74#7
  | .endMeasure => 0x74#7
  | .settleWait => 0x74#7
  | .endSettle => 0x74#7
  | .txWait => 0x7A#7
  | .txOk => 0x7B#7
  | .txFail => 0x7B#7
  | .boWait => 0x7C#7
  | .boEnd => 0x7C#7
  | .illegal => 0x70#7

/-- The opcode map's rows in the table's order (R36). -/
def opcodeMap : List Instr :=
  [.idle, .sample, .endMeasure, .settleWait, .endSettle, .txWait, .txOk, .txFail, .boWait, .boEnd, .illegal]

/-- Whether a row matches: `(dv & mask) = match` (R35). -/
def rowMatches (dv : DecodeVector) (i : Instr) : Bool :=
  (dv &&& rowMask i) == rowMatch i

/-- The operation a decode vector selects (R35). The answer is none only where no row matches, which happens for no
vector. -/
def decode (dv : DecodeVector) : Option Instr :=
  opcodeMap.find? (rowMatches dv)

/-- A vector of operation `i` whose don't-care bits are those of `fill` (R36, R38). -/
def encodeWith (i : Instr) (fill : DecodeVector) : DecodeVector :=
  rowMatch i ||| (fill &&& ~~~(rowMask i))

/-- The vector of operation `i` with every don't-care bit 0. -/
def encode (i : Instr) : DecodeVector :=
  encodeWith i 0#7

/-- The decoder on a number as the opcode table numbers bits: the low `nbits` bits of `w`, refused unless they are a
seven-bit vector (R39; log entry 11). -/
def decodeTableWord (nbits w : Nat) : Option Instr :=
  if isDecodeWord (w % 2 ^ nbits) then decode (BitVec.ofNat 7 (w % 2 ^ nbits)) else none

/-- The spelling of an operation (R40). -/
def Instr.mnemonic : Instr → String
  | .idle => "IDLE"
  | .sample => "SAMPLE"
  | .endMeasure => "END_MEASURE"
  | .settleWait => "SETTLE_WAIT"
  | .endSettle => "END_SETTLE"
  | .txWait => "TX_WAIT"
  | .txOk => "TX_OK"
  | .txFail => "TX_FAIL"
  | .boWait => "BO_WAIT"
  | .boEnd => "BO_END"
  | .illegal => "ILLEGAL"

/-- A bit as a binary digit. -/
def bitDigit (b : Bool) : Char :=
  if b then '1' else '0'

/-- The seven binary digits of a decode vector, `dv[6]` first (R40). -/
def dvDigits (dv : DecodeVector) : List Char :=
  [6, 5, 4, 3, 2, 1, 0].map fun k => bitDigit (dv.getLsbD k)

/-- A tick's disassembly: its mnemonic, a space, `dv` in binary (R40). -/
def disassemble (dv : DecodeVector) : Option String :=
  (decode dv).map fun i => i.mnemonic ++ " " ++ String.ofList (dvDigits dv)

end Sys2Proof
end

