-- ==== Sys2Proof/Machine/State.lean ====
section
/-! DEFINITION. State: the machine's registers (10_state R23), the levels on its input ports (R20), the reasons a step
can stop (60_exceptions R72), and the state after reset (R22). -/

namespace Sys2Proof.Machine

/-- The levels on the input ports at one rising edge of `clk` (R20), for samples of `sw` and times of `tw` bits (R4). `clk` itself is the step of the model. -/
structure Inputs (sw : Nat := Config.sampleW) (tw : Nat := Config.timerW) where
  rst : Bool
  step : Bool
  now : Time tw
  samp : Lanes (Sample sw)
  txDone : Bool
  txOk : Bool
deriving DecidableEq, Repr

/-- The free draw of every input at edge `n` (R5, R79; log entry 2). -/
def Inputs.draw {sw tw : Nat} (n : Nat) : Inputs sw tw where
  rst := Config.drawRst n
  step := Config.drawStep n
  now := Config.drawNow tw n
  samp := Lanes.ofFn (Config.drawSamp sw n)
  txDone := Config.drawTxDone n
  txOk := Config.drawTxOk n

/-- The machine between two edges, built with `SAMPLE_W = sw` and `TIMER_W = tw` (R4). `phase`, `bo`, `ps` and `mr` are the spec's whole architectural state (R23);
`inp`, `script` and `edge` are the model's own (log entries 2 and 4). -/
structure State (sw : Nat := Config.sampleW) (tw : Nat := Config.timerW) where
  /-- The phase register (R13). -/
  phase : Phase
  /-- The backoff flag (R16). -/
  bo : Bool
  /-- The phase-start timestamp (R15). -/
  ps : Time tw
  /-- The min-hold register file (R10). -/
  mr : Lanes (Sample sw)
  /-- The levels on the input ports at the coming edge (R20). -/
  inp : Inputs sw tw
  /-- The levels at the edges after that, as far as a tick script lays them down, the earliest first (R41). -/
  script : List (Inputs sw tw)
  /-- The number of the coming edge, by which the free draws are taken. -/
  edge : Nat
deriving DecidableEq, Repr

/-- The architectural state: the tuple of R23, and nothing else. -/
structure Arch (sw : Nat := Config.sampleW) (tw : Nat := Config.timerW) where
  phase : Phase
  bo : Bool
  ps : Time tw
  mr : Lanes (Sample sw)
deriving DecidableEq, Repr

/-- The architectural part of a state (R23). -/
def State.arch {sw tw : Nat} (s : State sw tw) : Arch sw tw :=
  ⟨s.phase, s.bo, s.ps, s.mr⟩

/-- The sentinel of a width, `2 ^ (w - 1) - 1` (R4): "no valid sample yet". -/
def sentinel (w : Nat) : BitVec w :=
  BitVec.ofNat w (2 ^ (w - 1) - 1)

/-- Why the machine stops with a fault (R72). -/
inductive Fault (sw : Nat := Config.sampleW) (tw : Nat := Config.timerW) where
  /-- `IllegalPhase`, code 1: raised by ILLEGAL, a tick with `phase = 11`; it records the state at the tick (R68, R72;
  log entry 7). Safe: the spec gives such a tick no effect, and a state reachable from reset never raises it. -/
  | illegalPhase (phase : Phase) (bo : Bool) (ps : Time tw) (mr : Lanes (Sample sw))
deriving DecidableEq, Repr

/-- What has no meaning in the model. -/
inductive Refusal where
  /-- An operation without a meaning: raised only by an arm of `exec` that rejects its operation by name. Safe. -/
  | notModelled (mnemonic : String)
  /-- Raised by `step` where no row of the opcode map matches `dv`; no vector is such (R35). Safe. -/
  | noRowMatches (dv : DecodeVector)
  /-- Raised when a tick script is loaded in which a SAMPLE tick gives no `samp`: the script is ill formed (R41, R72;
  log entry 6). No operation raises it. Safe. -/
  | sampleWithoutSamp
deriving DecidableEq, Repr

/-- A machine of any widths right after the reset edge (R22), which is edge 0 of the model: `ps` is the `now` of that edge, a free
draw (log entry 3), and the coming edge is edge 1, with nothing laid down for it (log entry 4). -/
def State.resetAt (sw tw : Nat) : State sw tw where
  phase := Phase.meas
  bo := false
  ps := Config.drawNow tw 0
  mr := Lanes.fill (sentinel sw)
  inp := Inputs.draw 1
  script := []
  edge := 1

/-- The machine of the default widths right after the reset edge (R4, R22). -/
def State.reset : State :=
  State.resetAt Config.sampleW Config.timerW

end Sys2Proof.Machine
end

