-- ==== Sys2Proof/Machine/Operands.lean ====
section
/-! DEFINITION. Operands: the implicit operands of the operations, each assembled as 30_encoding R34 says. -/

namespace Sys2Proof.Machine

variable {sw tw : Nat}

/-- The threshold `thr` a phase selects, in `TIMER_W = tw` bits; phase 11 has the backoff's, which nothing uses (R34, R55). -/
def threshold (tw : Nat) (phase : Phase) : Time tw :=
  if phase = Phase.meas then BitVec.ofNat _ Config.tMeas
  else if phase = Phase.settling then BitVec.ofNat _ Config.tSet
  else BitVec.ofNat _ Config.tBo

/-- The eight sample operands, taken with no extension or scaling (R34, R42, R45). -/
def State.sampleOperand (s : State sw tw) : Lanes (Sample sw) :=
  s.inp.samp

/-- The time operand (R34). -/
def State.timeOperand (s : State sw tw) : Time tw :=
  s.inp.now

/-- What the client reports: whether the attempt has ended (R34, R62). -/
def State.doneOperand (s : State sw tw) : Bool :=
  s.inp.txDone

/-- The outcome operand: 1 is Success, 0 is Failure, taken as reported (R34, R63). -/
def State.outcomeOperand (s : State sw tw) : Bool :=
  s.inp.txOk

end Sys2Proof.Machine
end

