-- ==== Sys2Proof/Machine/Flags.lean ====
section
/-! DEFINITION. Flags: the cycle-timer comparator (42_scheduler R54 to R56, 60_exceptions R78). The machine holds no
flag (10_state R19): these are signals of the tick. -/

namespace Sys2Proof.Machine

variable {sw tw : Nat}

/-- `a -% b`, the difference modulo `2 ^ w` (R6, R54). -/
def modularSub {w : Nat} (a b : BitVec w) : BitVec w :=
  a - b

/-- Whether an elapsed time is still inside its window: the strict unsigned comparison (R56). -/
def insideWindow {w : Nat} (elapsed thr : BitVec w) : Bool :=
  elapsed.ult thr

/-- The time since the phase start, `now -% ps` (R54). -/
def State.elapsed (s : State sw tw) : Time tw :=
  modularSub s.timeOperand s.ps

/-- The comparator's output (R56). -/
def State.lt (s : State sw tw) : Bool :=
  insideWindow s.elapsed (threshold tw s.phase)

end Sys2Proof.Machine
end

