-- ==== Sys2Proof/Machine/Ops.lean ====
section
/-! DEFINITION. Ops: the named operations the meanings are made of: writing one register, the lane-wise updates, the
reset edge, the model fault, forming and decoding `dv`, and passing to the next edge. The hardware takes no exception and
has no return from one (60_exceptions R71), so no operation here saves state or enters a handler. -/

namespace Sys2Proof.Machine

variable {sw tw : Nat}

/-- `phase <- p` (R6, R14). -/
def State.setPhase (s : State sw tw) (p : Phase) : State sw tw :=
  { s with phase := p }

/-- `bo <- b` (R6, R16). -/
def State.setBo (s : State sw tw) (b : Bool) : State sw tw :=
  { s with bo := b }

/-- `ps <- t` (R6, R15). -/
def State.setPs (s : State sw tw) (t : Time tw) : State sw tw :=
  { s with ps := t }

/-- `mr[c] <- m[c]` for every `c`, at one edge (R6, R29). -/
def State.setMr (s : State sw tw) (m : Lanes (Sample sw)) : State sw tw :=
  { s with mr := m }

/-- The algebraic minimum: `a` if `a ≤ b` as signed integers, else `b` (R6). -/
def smin {w : Nat} (a b : BitVec w) : BitVec w :=
  if a.sle b then a else b

/-- Every lane folded with its sample (R42, R43). -/
def minUpdate (m samp : Lanes (Sample sw)) : Lanes (Sample sw) :=
  Lanes.zipWith smin m samp

/-- A register file freshly filled: `SENT` in every lane (R12). -/
def freshLanes (sw : Nat) : Lanes (Sample sw) :=
  Lanes.fill (sentinel sw)

/-- What an edge with `rst = 1` does: the reset values are loaded, whatever else stands on the ports (R22, R81). -/
def State.resetEdge (s : State sw tw) : State sw tw :=
  (((s.setPhase Phase.meas).setBo false).setPs s.timeOperand).setMr (freshLanes sw)

/-- `raise IllegalPhase`: the fault with the state at the tick; no state is written (R68, R72). -/
def raiseIllegalPhase (s : State sw tw) : Host.Outcome (State sw tw) (Fault sw tw) Refusal :=
  .fault (.illegalPhase s.phase s.bo s.ps s.mr)

/-- A fault's code (R72). -/
def faultCode : Fault sw tw → Nat
  | .illegalPhase _ _ _ _ => 1

/-- The decode vector formed at the coming edge (R33). -/
def State.dv (s : State sw tw) : DecodeVector :=
  assembleDv s.inp.step s.phase s.bo s.lt s.doneOperand s.outcomeOperand

/-- The operation the coming edge performs if it is no reset edge (R35, R57). -/
def State.op (s : State sw tw) : Option Instr :=
  decode s.dv

/-- The inputs of an edge laid down by the script, or drawn freely where the script has ended (R5, R41). -/
def nextInputs (script : List (Inputs sw tw)) (edge : Nat) : Inputs sw tw :=
  match script with
  | [] => Inputs.draw edge
  | e :: _ => e

/-- Passing to the next edge: its inputs come to stand on the ports. No register changes (R30). -/
def State.advance (s : State sw tw) : State sw tw :=
  { s with inp := nextInputs s.script (s.edge + 1), script := s.script.tail, edge := s.edge + 1 }

/-- Passing to the next edge after an operation; a stop stays as it is (R72). -/
def advanceAfter : Host.Outcome (State sw tw) (Fault sw tw) Refusal → Host.Outcome (State sw tw) (Fault sw tw) Refusal
  | .next t => .next t.advance
  | .fault r => .fault r
  | .refused r => .refused r

/-- One edge, with the meanings `meaning` of the operations: reset where `rst = 1`, which has priority, else the one
operation `dv` selects; then the next edge's inputs come to the ports (R33, R57, R76, R81). -/
def edgeWith (meaning : Instr → State sw tw → Host.Outcome (State sw tw) (Fault sw tw) Refusal) (s : State sw tw) :
    Host.Outcome (State sw tw) (Fault sw tw) Refusal :=
  match s.inp.rst with
  | true => .next s.resetEdge.advance
  | false =>
    match s.op with
    | some i => advanceAfter (meaning i s)
    | none => .refused (.noRowMatches s.dv)

/-- The state in which the coming edge forms the decode vector `dv`: its register fields in the registers, its port
fields on the ports, and a time that gives its `lt` (R33, R56; log entry 9). -/
def State.placeDv (s : State sw tw) (dv : DecodeVector) : State sw tw :=
  { s with
    phase := dvPhase dv
    bo := dvBo dv
    ps := 0#_
    inp :=
      { s.inp with
        rst := false
        step := dvStep dv
        now := if dvLt dv then 0#_ else threshold tw (dvPhase dv)
        txDone := dvTxDone dv
        txOk := dvTxOk dv } }

end Sys2Proof.Machine
end

