-- ==== Sys2Proof/Machine/MinHold.lean ====
section
/-! DEFINITION. MinHold: the meaning of SAMPLE (40_minhold R42). -/

namespace Sys2Proof.Machine

variable {sw tw : Nat}

/-- SAMPLE: every lane becomes the signed minimum of itself and its sample, all at one edge (R42). -/
def execSample (s : State sw tw) : Host.Outcome (State sw tw) (Fault sw tw) Refusal :=
  .next (s.setMr (minUpdate s.mr s.sampleOperand))

end Sys2Proof.Machine
end

