-- ==== Sys2Proof/Machine/Scheduler.lean ====
section
/-! DEFINITION. Scheduler: the meanings of the phase machine's operations (42_scheduler R58 to R70). What a meaning does
not write stays as it is. -/

namespace Sys2Proof.Machine

variable {sw tw : Nat}

/-- IDLE: no state changes, in every phase (R70). -/
def execIdle (s : State sw tw) : Host.Outcome (State sw tw) (Fault sw tw) Refusal :=
  .next s

/-- END_MEASURE: to SETTLING, whose start is recorded; the register file is not reset (R58). -/
def execEndMeasure (s : State sw tw) : Host.Outcome (State sw tw) (Fault sw tw) Refusal :=
  .next ((s.setPhase Phase.settling).setPs s.timeOperand)

/-- SETTLE_WAIT: no state changes (R59). -/
def execSettleWait (s : State sw tw) : Host.Outcome (State sw tw) (Fault sw tw) Refusal :=
  .next s

/-- END_SETTLE: to TRANSMITTING; the timestamp is not written (R60). -/
def execEndSettle (s : State sw tw) : Host.Outcome (State sw tw) (Fault sw tw) Refusal :=
  .next (s.setPhase Phase.tx)

/-- TX_WAIT: no state changes, however long the attempt lasts (R62). -/
def execTxWait (s : State sw tw) : Host.Outcome (State sw tw) (Fault sw tw) Refusal :=
  .next s

/-- TX_OK: a fresh register file and a new measuring window (R64). -/
def execTxOk (s : State sw tw) : Host.Outcome (State sw tw) (Fault sw tw) Refusal :=
  .next (((s.setMr (freshLanes sw)).setPhase Phase.meas).setPs s.timeOperand)

/-- TX_FAIL: the backoff starts; the register file is kept (R65). -/
def execTxFail (s : State sw tw) : Host.Outcome (State sw tw) (Fault sw tw) Refusal :=
  .next ((s.setBo true).setPs s.timeOperand)

/-- BO_WAIT: no state changes (R66). -/
def execBoWait (s : State sw tw) : Host.Outcome (State sw tw) (Fault sw tw) Refusal :=
  .next s

/-- BO_END: the backoff is over (R67). -/
def execBoEnd (s : State sw tw) : Host.Outcome (State sw tw) (Fault sw tw) Refusal :=
  .next (s.setBo false)

/-- ILLEGAL: the model fault (R68). -/
def execIllegal (s : State sw tw) : Host.Outcome (State sw tw) (Fault sw tw) Refusal :=
  raiseIllegalPhase s

end Sys2Proof.Machine
end

