-- ==== Sys2Proof/Machine/Dispatch.lean ====
section
/-! DEFINITION. Dispatch: each operation's meaning (30_encoding R36). -/

namespace Sys2Proof.Machine

def exec (i : Instr) (s : State) : Host.Outcome State Fault Refusal :=
  match i with
  | .idle => Sys2Proof.Machine.execIdle s
  | .sample => Sys2Proof.Machine.execSample s
  | .endMeasure => Sys2Proof.Machine.execEndMeasure s
  | .settleWait => Sys2Proof.Machine.execSettleWait s
  | .endSettle => Sys2Proof.Machine.execEndSettle s
  | .txWait => Sys2Proof.Machine.execTxWait s
  | .txOk => Sys2Proof.Machine.execTxOk s
  | .txFail => Sys2Proof.Machine.execTxFail s
  | .boWait => Sys2Proof.Machine.execBoWait s
  | .boEnd => Sys2Proof.Machine.execBoEnd s
  | .illegal => Sys2Proof.Machine.execIllegal s

end Sys2Proof.Machine
end

