-- ==== Sys2Proof/Machine/Payload.lean ====
section
/-! DEFINITION. Payload: the scalar multiplier, the sentinel substitution, the channel names and the output ports
(41_multiplier R47 to R53, 10_state R11, R21). All of it is a function of the registers (R53). -/

namespace Sys2Proof.Machine

variable {sw tw : Nat}

/-- `abs_N(v)` with `N` one above the width of `v`: the magnitude, which cannot overflow (R6, R47). -/
def magnitude {w : Nat} (v : BitVec w) : BitVec (w + 1) :=
  BitVec.ofNat (w + 1) v.toInt.natAbs

/-- MUL3_16: the magnitude times 3, read with four fraction bits (R47). -/
def mul3over16 {w : Nat} (v : BitVec w) : BitVec (w + 1) :=
  magnitude v * BitVec.ofNat (w + 1) 3

/-- PAY: 0 for the sentinel, found by value, else the multiplier's result (R46, R50). -/
def pay {w : Nat} (r : BitVec w) : BitVec (w + 1) :=
  if r = sentinel w then 0#_ else mul3over16 r

/-- The voltage in millivolts that a fixed point value stands for, `m / 16` (R47, R52). -/
def millivolts {w : Nat} (m : BitVec w) : Rat :=
  (m.toNat : Rat) / 16

/-- The integer part of a fixed point value, `m[SW:4]`, which is `m[16:4]` at the default width (R48). -/
def integerPart (m : Payload sw) : BitVec (sw - 3) :=
  m.extractLsb' 4 (sw - 3)

/-- The fraction part of a fixed point value, `m[3:0]`, in sixteenths (R48). -/
def fractionPart (m : Payload sw) : BitVec 4 :=
  m.extractLsb' 0 4

/-- The two converters (R11). -/
inductive Device where
  | a
  | b
deriving DecidableEq, Repr

/-- The payload's field names (R11). -/
inductive PayloadField where
  | x1
  | x2
  | y1
  | y2
  | d1
  | d2
  | z1
  | z2
deriving DecidableEq, Repr

/-- The device a channel is bound to (R11). -/
def deviceOf (c : Channel) : Device :=
  if c.val < 4 then .a else .b

/-- The sub-channel of its device a channel is bound to (R11). -/
def subChannelOf (c : Channel) : Nat :=
  c.val % 4

/-- The payload field that reports a channel (R11). -/
def fieldOf : Channel → PayloadField
  | 0 => .x1
  | 1 => .x2
  | 2 => .y1
  | 3 => .y2
  | 4 => .d1
  | 5 => .d2
  | 6 => .z1
  | 7 => .z2

/-- The channel a payload field reports (R11). -/
def channelOf : PayloadField → Channel
  | .x1 => 0
  | .x2 => 1
  | .y1 => 2
  | .y2 => 3
  | .d1 => 4
  | .d2 => 5
  | .z1 => 6
  | .z2 => 7

/-- The output ports (R21). -/
structure Outputs (sw : Nat := Config.sampleW) (tw : Nat := Config.timerW) where
  phaseO : Phase
  boO : Bool
  psO : Time tw
  mrO : Lanes (Sample sw)
  pay : Lanes (Payload sw)
  txReq : Bool
deriving DecidableEq, Repr

/-- The payload ports, `pay[c] = PAY(mr[c])`, at all times (R51). -/
def Arch.payload (a : Arch sw tw) : Lanes (Payload sw) :=
  Lanes.map pay a.mr

/-- The transmit request (R61). -/
def Arch.txReq (a : Arch sw tw) : Bool :=
  a.phase == Phase.tx && !a.bo

/-- The output ports show the architectural state and nothing of the inputs (R21). -/
def Arch.outputs (a : Arch sw tw) : Outputs sw tw where
  phaseO := a.phase
  boO := a.bo
  psO := a.ps
  mrO := a.mr
  pay := a.payload
  txReq := a.txReq

/-- What stands on the output ports before the coming edge (R21, R30). -/
def State.outputs (s : State sw tw) : Outputs sw tw :=
  s.arch.outputs

/-- The payload under its field name (R11, R51). -/
def State.payloadField (s : State sw tw) (f : PayloadField) : Payload sw :=
  s.arch.payload.get (channelOf f)

end Sys2Proof.Machine
end

