-- ==== Sys2Proof/Machine/Step.lean ====
section
/-! DEFINITION. Step: one rising edge of `clk` (20_memory R30; log entry 1). -/

namespace Sys2Proof.Machine

/-- One edge of the machine of the default widths, with the meanings `exec` gives (R57, R76, R81). -/
def step (s : State) : Host.Outcome State Fault Refusal :=
  edgeWith exec s

/-- The state whose coming edge forms the decode vector in the low bits of `w` (log entry 9). -/
def State.withFetchWord (s : State) (nbits w : Nat) : State :=
  s.placeDv (BitVec.ofNat 7 (w % 2 ^ nbits))

end Sys2Proof.Machine
end

