-- ==== Sys2Proof/Machine/Widths.lean ====
section
/-! DEFINITION. Widths: the machine with `SAMPLE_W` and `TIMER_W` as arguments (00_scope R4). The host fixes `exec`,
`step` and `core` without arguments; they are these at the default widths (log entry 8). -/

namespace Sys2Proof.Machine

variable {sw tw : Nat}

/-- Each operation's meaning, at any widths (R4, R36). -/
def execAt (i : Instr) (s : State sw tw) : Host.Outcome (State sw tw) (Fault sw tw) Refusal :=
  match i with
  | .idle => execIdle s
  | .sample => execSample s
  | .endMeasure => execEndMeasure s
  | .settleWait => execSettleWait s
  | .endSettle => execEndSettle s
  | .txWait => execTxWait s
  | .txOk => execTxOk s
  | .txFail => execTxFail s
  | .boWait => execBoWait s
  | .boEnd => execBoEnd s
  | .illegal => execIllegal s

/-- One edge, at any widths (R4, R57, R76, R81). -/
def stepAt (s : State sw tw) : Host.Outcome (State sw tw) (Fault sw tw) Refusal :=
  edgeWith execAt s

/-- The machine with its two arguments, behind the host's interface (R4). -/
def coreAt (sw tw : Nat) : Host.Core where
  State := State sw tw
  Fault := Fault sw tw
  Refusal := Refusal
  step := stepAt
  reset := State.resetAt sw tw

end Sys2Proof.Machine
end

