-- ==== Sys2Proof/Machine/Script.lean ====
section
/-! DEFINITION. Script: tick scripts, the programs of the MHA (30_encoding R41): their lines, the levels a line puts on
the ports, the check that refuses an ill-formed script, loading, and the written syntax. -/

namespace Sys2Proof.Machine

variable {sw tw : Nat}

/-- The `tx` field of a TICK line (R41). -/
inductive TxField where
  | busy
  | ok
  | fail
deriving DecidableEq, Repr

/-- A line of a tick script: one edge (R41). -/
inductive ScriptLine (sw : Nat := Config.sampleW) (tw : Nat := Config.timerW) where
  | reset (now : Time tw)
  | tick (now : Time tw) (samp : Option (Lanes (Sample sw))) (tx : TxField)
  | nostep
deriving DecidableEq, Repr

/-- Every input at 0: what a line does not give stands so (log entry 5). -/
def quietInputs (sw tw : Nat) : Inputs sw tw where
  rst := false
  step := false
  now := 0#_
  samp := Lanes.fill 0#_
  txDone := false
  txOk := false

/-- `tx_done` of a `tx` field (R41). -/
def TxField.done : TxField → Bool
  | .busy => false
  | .ok => true
  | .fail => true

/-- `tx_ok` of a `tx` field (R41). -/
def TxField.success : TxField → Bool
  | .busy => false
  | .ok => true
  | .fail => false

/-- The levels a line puts on the input ports (R41; log entry 5). -/
def ScriptLine.inputs : ScriptLine sw tw → Inputs sw tw
  | .reset now => { quietInputs sw tw with rst := true, now := now }
  | .tick now samp tx =>
    { quietInputs sw tw with
      step := true
      now := now
      samp := samp.getD (Lanes.fill 0#_)
      txDone := tx.done
      txOk := tx.success }
  | .nostep => quietInputs sw tw

/-- Whether a line gives sample values (R41). -/
def ScriptLine.givesSamp : ScriptLine sw tw → Bool
  | .reset _ => false
  | .tick _ samp _ => samp.isSome
  | .nostep => false

/-- `NOSTEP*<n>` expands to `n` NOSTEP lines (R41). -/
def nosteps (n : Nat) : List (ScriptLine sw tw) :=
  List.replicate n .nostep

/-- The state with the line's levels on the ports. -/
def State.facingLine (s : State sw tw) (l : ScriptLine sw tw) : State sw tw :=
  { s with inp := l.inputs }

/-- Whether a line's edge would be a SAMPLE tick without sample values (R41). -/
def State.lacksSamp (s : State sw tw) (l : ScriptLine sw tw) : Bool :=
  !l.inputs.rst && (s.facingLine l).op == some .sample && !l.givesSamp

/-- Whether every SAMPLE tick of a script run from `s` gives `samp` (R41). Lines after a fault are never run (R72). -/
def scriptWellFormed (s : State sw tw) : List (ScriptLine sw tw) → Bool
  | [] => true
  | l :: ls =>
    !s.lacksSamp l &&
      match stepAt (s.facingLine l) with
      | .next t => scriptWellFormed t ls
      | .fault _ => true
      | .refused _ => true

/-- A script's lines laid down as the coming edges. -/
def State.layDown (s : State sw tw) : List (ScriptLine sw tw) → State sw tw
  | [] => s
  | l :: ls => { s with inp := l.inputs, script := ls.map ScriptLine.inputs }

/-- Loading a script: an ill-formed one is refused (R41, R72; log entry 6). -/
def State.load (s : State sw tw) (ls : List (ScriptLine sw tw)) : Host.Outcome (State sw tw) (Fault sw tw) Refusal :=
  if scriptWellFormed s ls then .next (s.layDown ls) else .refused .sampleWithoutSamp

/-! The written syntax of R41 (log entry 16). -/

/-- A text cut at every `sep`. -/
def splitAtChar (sep : Char) : List Char → List (List Char)
  | [] => [[]]
  | c :: r =>
    match splitAtChar sep r with
    | [] => [[c]]
    | w :: ws => if c = sep then [] :: w :: ws else (c :: w) :: ws

/-- What follows a fixed beginning. -/
def afterPrefix : List Char → List Char → Option (List Char)
  | [], r => some r
  | _ :: _, [] => none
  | p :: ps, c :: r => if p = c then afterPrefix ps r else none

/-- A decimal or hexadecimal digit's value. -/
def digitValue (c : Char) : Option Nat :=
  if '0' ≤ c ∧ c ≤ '9' then some (c.toNat - '0'.toNat)
  else if 'a' ≤ c ∧ c ≤ 'f' then some (c.toNat - 'a'.toNat + 10)
  else if 'A' ≤ c ∧ c ≤ 'F' then some (c.toNat - 'A'.toNat + 10)
  else none

/-- Digits read in a base, the most significant first. -/
def digitsFrom (base acc : Nat) : List Char → Option Nat
  | [] => some acc
  | c :: r =>
    match digitValue c with
    | some d => if d < base then digitsFrom base (base * acc + d) r else none
    | none => none

/-- A nonempty string of digits of a base. -/
def readDigits (base : Nat) (t : List Char) : Option Nat :=
  if t.isEmpty then none else digitsFrom base 0 t

/-- An unsigned value, decimal or `0x` hexadecimal (R41). -/
def readUnsigned (t : List Char) : Option Nat :=
  match afterPrefix ['0', 'x'] t with
  | some r => readDigits 16 r
  | none => readDigits 10 t

/-- A signed decimal value (R41). -/
def readSigned (t : List Char) : Option Int :=
  match afterPrefix ['-'] t with
  | some r => (readDigits 10 r).map fun n => -(n : Int)
  | none => (readDigits 10 t).map fun n => (n : Int)

/-- `<T>`: an unsigned value of `TW` bits (R41). -/
def readTime (t : List Char) : Option (Time tw) :=
  match readUnsigned t with
  | some n => if n < 2 ^ tw then some (BitVec.ofNat _ n) else none
  | none => none

/-- `<vc>`: a signed decimal value of `SW` bits (R41). -/
def readSample (t : List Char) : Option (Sample sw) :=
  match readSigned t with
  | some v =>
    if -(2 ^ (sw - 1) : Int) ≤ v ∧ v < 2 ^ (sw - 1) then some (BitVec.ofInt _ v) else none
  | none => none

/-- What stands between `(` and a final `)`. -/
def insideParens : List Char → Option (List Char)
  | '(' :: r => if r.getLast? = some ')' then some r.dropLast else none
  | _ => none

/-- `(<v0>,...,<v7>)`: eight sample values (R41). -/
def readSamples (t : List Char) : Option (Lanes (Sample sw)) :=
  match insideParens t with
  | none => none
  | some r =>
    match (splitAtChar ',' r).mapM readSample with
    | some [v0, v1, v2, v3, v4, v5, v6, v7] => some ⟨v0, v1, v2, v3, v4, v5, v6, v7⟩
    | _ => none

/-- `busy`, `ok` or `fail` (R41). -/
def readTx (t : List Char) : Option TxField :=
  if t = "busy".toList then some .busy
  else if t = "ok".toList then some .ok
  else if t = "fail".toList then some .fail
  else none

/-- A field `<name>=<value>`. -/
def readField {α : Type} (name : String) (value : List Char → Option α) (t : List Char) : Option α :=
  (afterPrefix (name ++ "=").toList t).bind value

/-- The words of a TICK line after `TICK` (R41): `tx` is `busy` where it is left out. -/
def readTick : List (List Char) → Option (ScriptLine sw tw)
  | [t] => (readField "now" readTime t).map fun now => .tick now none .busy
  | [t, u] =>
    match readField "now" readTime t, readField "samp" readSamples u, readField "tx" readTx u with
    | some now, some v, _ => some (.tick now (some v) .busy)
    | some now, none, some x => some (.tick now none x)
    | _, _, _ => none
  | [t, u, v] =>
    match readField "now" readTime t, readField "samp" readSamples u, readField "tx" readTx v with
    | some now, some w, some x => some (.tick now (some w) x)
    | _, _, _ => none
  | _ => none

/-- A written line: the script lines it stands for, one but for `NOSTEP*<n>` (R41). -/
def readLine (line : String) : Option (List (ScriptLine sw tw)) :=
  match splitAtChar ' ' line.toList with
  | [] => none
  | w :: ws =>
    if w = "RESET".toList then
      match ws with
      | [t] => (readField "now" readTime t).map fun now => [.reset now]
      | _ => none
    else if w = "TICK".toList then (readTick ws).map fun l => [l]
    else if w = "NOSTEP".toList ∧ ws = [] then some [.nostep]
    else if ws = [] then ((afterPrefix "NOSTEP*".toList w).bind (readDigits 10)).map nosteps
    else none

/-- A written script: its lines in order (R41). -/
def readScript (text : List String) : Option (List (ScriptLine sw tw)) :=
  (text.mapM readLine).map List.flatten

end Sys2Proof.Machine
end

