-- ==== Sys2Proof/Safety.lean ====
section
/-! DEFINITION. Safety: what a legal state is (10_state R17), runs over the environment's inputs, what a run performs and
reads, and the duties of the environment, which claims may assume and the machine never checks (60_exceptions R79;
log entries 13, 15 and 17). -/

namespace Sys2Proof.Machine

variable {sw tw : Nat}

/-- The invariants of every state reachable from reset (R17). -/
abbrev State.Legal (s : State sw tw) : Prop :=
  s.phase ≠ Phase.illegal ∧ (s.bo = true → s.phase = Phase.tx)

/-- The state with the levels `e` on its input ports at the coming edge. -/
def State.facing (s : State sw tw) (e : Inputs sw tw) : State sw tw :=
  { s with inp := e }

/-- One edge at which the environment's inputs are `e`. -/
def edgeStep (s : State sw tw) (e : Inputs sw tw) : Host.Outcome (State sw tw) (Fault sw tw) Refusal :=
  stepAt (s.facing e)

/-- The edges `es` in order; a stop ends the run (R72). -/
def runEdges (s : State sw tw) : List (Inputs sw tw) → Host.Outcome (State sw tw) (Fault sw tw) Refusal
  | [] => .next s
  | e :: es =>
    match edgeStep s e with
    | .next t => runEdges t es
    | .fault r => .fault r
    | .refused r => .refused r

/-- `n` steps of the machine, at the default widths the one behind the host's interface, on the edges that its own fields
lay down. -/
def runSteps (n : Nat) (s : State sw tw) : Host.Outcome (State sw tw) (Fault sw tw) Refusal :=
  (coreAt sw tw).run n s

/-- The operation an edge with inputs `e` performs; none at a reset edge, which performs no operation (R81). -/
def State.performs (s : State sw tw) (e : Inputs sw tw) : Option Instr :=
  if e.rst then none else (s.facing e).op

/-- The states in which the edges of a run find the machine, each with the edge's inputs. -/
def visits (s : State sw tw) : List (Inputs sw tw) → List (State sw tw × Inputs sw tw)
  | [] => []
  | e :: es =>
    (s, e) ::
      match edgeStep s e with
      | .next t => visits t es
      | .fault _ => []
      | .refused _ => []

/-- The operations a run performs, an entry per edge it comes to. -/
def operations (s : State sw tw) (es : List (Inputs sw tw)) : List (Option Instr) :=
  (visits s es).map fun v => v.1.performs v.2

/-- The values a run's SAMPLE ticks read at `samp[c]`, in order (R44). -/
def readings (c : Channel) (s : State sw tw) (es : List (Inputs sw tw)) : List (Sample sw) :=
  ((visits s es).filter fun v => v.1.performs v.2 == some .sample).map fun v => v.2.samp.get c

/-- A state after a reset edge, or after any number of edges from one, with any inputs (R17). -/
inductive Reachable : State sw tw → Prop where
  | reset (s : State sw tw) : Reachable s.resetEdge
  | edge (s t : State sw tw) (e : Inputs sw tw) : Reachable s → edgeStep s e = .next t → Reachable t

/-- Whether an edge is a tick (R7). -/
def Inputs.isTick (e : Inputs sw tw) : Bool :=
  !e.rst && e.step

/-- The milliseconds from the phase start to the coming edge, as a number (R54). -/
def State.waitedMs (s : State sw tw) : Nat :=
  (s.inp.now.toNat + 2 ^ tw - s.ps.toNat) % 2 ^ tw

/-- Whether two input levels are the same on every port that is sampled at an edge in state `s` (R20). -/
def sampledAlike (s : State sw tw) (e e' : Inputs sw tw) : Bool :=
  e.rst == e'.rst &&
    (if e.rst then e.now == e'.now
     else
      e.step == e'.step &&
        (!e.step ||
          e.now == e'.now &&
            (s.performs e != some .sample || e.samp == e'.samp) &&
            (!s.arch.txReq || e.txDone == e'.txDone && (!e.txDone || e.txOk == e'.txOk))))

/-- An edge of a run with what only the environment knows of it (R79). -/
structure HostEdge (sw : Nat := Config.sampleW) (tw : Nat := Config.timerW) where
  /-- The levels on the input ports. -/
  inputs : Inputs sw tw
  /-- The real time in milliseconds. -/
  realTime : Nat
  /-- Whether both converters have initialised by now (R85, step 2). -/
  convertersReady : Bool
  /-- Whether the network is associated by now (R85, step 3). -/
  networkReady : Bool
  /-- Whether the attempt in progress has ended by now. -/
  attemptEnded : Bool
  /-- The conversion of each channel's physical input (R11) made for this tick, where it is done. -/
  conversions : Lanes (Option (Sample sw))
deriving DecidableEq, Repr

/-- Whether the platform has done its boot steps (R85, steps 2 and 3). -/
def HostEdge.booted (h : HostEdge sw tw) : Bool :=
  h.convertersReady && h.networkReady

/-- An edge of a run as it finds the machine: the real time of the last write of `ps`, and that of the last tick or
reset, beside the state and the edge. -/
structure HostVisit (sw : Nat := Config.sampleW) (tw : Nat := Config.timerW) where
  state : State sw tw
  psTime : Nat
  prev : Nat
  edge : HostEdge sw tw

/-- The operation performed at a visit. -/
def HostVisit.op (v : HostVisit sw tw) : Option Instr :=
  v.state.performs v.edge.inputs

/-- Whether the visit's edge writes `ps` (R15). -/
def HostVisit.writesPs (v : HostVisit sw tw) : Bool :=
  v.edge.inputs.rst || [some Instr.endMeasure, some .txOk, some .txFail].contains v.op

/-- The milliseconds of real time since the last write of `ps`. -/
def HostVisit.waited (v : HostVisit sw tw) : Nat :=
  v.edge.realTime - v.psTime

/-- The visits of a run, from a state whose `ps` was last written at `psTime` and whose last tick or reset was at
`prev`. -/
def hostVisits (s : State sw tw) (psTime prev : Nat) : List (HostEdge sw tw) → List (HostVisit sw tw)
  | [] => []
  | h :: hs =>
    let v : HostVisit sw tw := ⟨s, psTime, prev, h⟩
    v ::
      match edgeStep s h.inputs with
      | .next t =>
        hostVisits t (if v.writesPs then h.realTime else psTime)
          (if h.inputs.rst || h.inputs.isTick then h.realTime else prev) hs
      | .fault _ => []
      | .refused _ => []

/-- The platform's duty before the first tick: `rst` has been asserted at least once (R79). -/
def resetBeforeTick : List (HostEdge sw tw) → Bool
  | [] => true
  | h :: hs => h.inputs.rst || !h.inputs.step && resetBeforeTick hs

/-- The platform's duty at an edge: no tick until both converters have initialised and the network is associated (R79,
R85). -/
abbrev platformDuty (h : HostEdge sw tw) : Prop :=
  h.inputs.isTick = true → h.booted = true

/-- The platform's boot duty over a run from power-up (R79). -/
abbrev bootDuty (hs : List (HostEdge sw tw)) : Prop :=
  resetBeforeTick hs = true ∧ ∀ h ∈ hs, platformDuty h

/-- The boot order of R85: `rst` is held at every edge of `boot` and at the last reset edge `last`, by which both
converters have initialised and the network is associated. -/
abbrev bootOrder (boot : List (HostEdge sw tw)) (last : HostEdge sw tw) : Prop :=
  (∀ h ∈ boot, h.inputs.rst = true) ∧ last.inputs.rst = true ∧ last.booted = true

/-- The front end's duty: a SAMPLE tick finds on each `samp[c]` the conversion of channel `c`'s physical input made for
it (R79, R88). -/
abbrev frontEndDuty (v : HostVisit sw tw) : Prop :=
  v.op = some .sample → ∀ c, v.edge.conversions.get c = some (v.edge.inputs.samp.get c)

/-- The client's duty: at a tick with an attempt requested, `tx_done` says whether that attempt has ended (R79, R87). -/
abbrev clientDuty (v : HostVisit sw tw) : Prop :=
  v.edge.inputs.isTick = true → v.state.arch.txReq = true → v.edge.inputs.txDone = v.edge.attemptEnded

/-- The time base's duty: at a tick and at a reset edge `now` is the real time modulo `2 ^ TIMER_W`, no earlier than at
the last tick or reset, and a tick comes within `2 ^ TIMER_W` of the last write of `ps` (R79). Idle edges are under no
duty, since they sample no input (R20): the model's choice, log entry 15. -/
abbrev timeDuty (v : HostVisit sw tw) : Prop :=
  (v.edge.inputs.rst = true ∨ v.edge.inputs.isTick = true →
    v.edge.inputs.now = BitVec.ofNat tw v.edge.realTime ∧ v.prev ≤ v.edge.realTime) ∧
  (v.edge.inputs.isTick = true → v.waited < 2 ^ tw)

/-- Ticks at most `D` milliseconds apart (R69). R69 bounds the gap from one tick to the next only; that the gap from a
reset edge to the first tick after it is bounded by `D` too is the model's choice (DESIGN CHOICE, log entry 17): without
it law 1's upper bound does not follow for the window that a reset starts. -/
abbrev tickSpacing (D : Nat) (v : HostVisit sw tw) : Prop :=
  v.edge.inputs.isTick = true → v.edge.realTime ≤ v.prev + D

/-- The duties of the environment at an edge of a run (R79). -/
abbrev hostDuty (v : HostVisit sw tw) : Prop :=
  platformDuty v.edge ∧ frontEndDuty v ∧ clientDuty v ∧ timeDuty v

/-- What the window laws say of a tick, in real time since the last write of `ps` (R69, laws 1 to 3). -/
def windowLaw (D : Nat) (v : HostVisit sw tw) : Prop :=
  match v.op with
  | some .sample => v.waited < 50000
  | some .endMeasure => 50000 ≤ v.waited ∧ v.waited < 50000 + D
  | some .settleWait => v.waited < 10000
  | some .endSettle => 10000 ≤ v.waited ∧ v.waited < 10000 + D
  | some .boWait => v.waited < 1000
  | some .boEnd => 1000 ≤ v.waited ∧ v.waited < 1000 + D
  | some .idle => True
  | some .txWait => True
  | some .txOk => True
  | some .txFail => True
  | some .illegal => True
  | none => True

/-- An outcome is consumed exactly where the attempt in progress has ended, and a SAMPLE edge makes each lane the
minimum of itself and of the conversion of its channel made for that tick (R42, R61, R79, R87, R88). -/
def exchangeLaw (v : HostVisit sw tw) : Prop :=
  match v.op with
  | some .txOk => v.edge.attemptEnded = true
  | some .txFail => v.edge.attemptEnded = true
  | some .txWait => v.edge.attemptEnded = false
  | some .sample =>
    ∃ t, edgeStep v.state v.edge.inputs = .next t ∧ ∀ c, ∃ r, v.edge.conversions.get c = some r ∧
      (t.mr.get c).toInt = min (v.state.mr.get c).toInt r.toInt
  | some .idle => True
  | some .endMeasure => True
  | some .settleWait => True
  | some .endSettle => True
  | some .boWait => True
  | some .boEnd => True
  | some .illegal => True
  | none => True

end Sys2Proof.Machine
end

