-- ==== Sys2Proof/Certificates/Slice0/Obligations.lean ====
section
/-! DEFINITION. Obligations: what is stated of the machine, rule by rule of spec/. Statements about an operation's effect
say that `exec` answers a next state, for every state, and where the spec's condition makes `step` run it. A statement over
`State sw tw` is about the machine with any `SAMPLE_W` and `TIMER_W` (00_scope R4), whose step is `stepAt`;
StepRunsTheOneMatchingRow says that `exec`, `step` and `core` are that machine's at the default widths. `advance`, by which
a step passes to the next edge's inputs, is the model's choice wherever it stands (DESIGN CHOICE, log entry 2). -/

open Sys2Proof Sys2Proof.Machine

/-! ### Encoding -/

/-- R33: each field of the decode vector formed at an edge is its source's value; a reset edge performs reset
instead. -/
def Obligations.DecodeVectorHoldsItsFields : Prop :=
  ∀ s : State,
    (dvStep s.dv = s.inp.step ∧ dvPhase s.dv = s.phase ∧ dvBo s.dv = s.bo ∧ dvLt s.dv = s.lt ∧
      dvTxDone s.dv = s.inp.txDone ∧ dvTxOk s.dv = s.inp.txOk) ∧
    (s.inp.rst = true → step s = .next s.resetEdge.advance)

/-- For each vector exactly one row matches, and the tick performs that row's operation and nothing else (R35), at any
widths (R4). The other clauses are the model's choices: what `step` adds to `exec` is that the next edge's inputs come to
the ports and no register changes (log entry 2), and the host's `exec`, `step` and `core` are those of the machine at the
default widths (log entry 8). -/
def Obligations.StepRunsTheOneMatchingRow : Prop :=
  (∀ dv, ∃ i, decode dv = some i ∧ ∀ j, rowMatches dv j = true ↔ j = i) ∧
  (∀ (s : State) (i : Instr), s.inp.rst = false → decode s.dv = some i → step s = advanceAfter (exec i s)) ∧
  (∀ t : State, advanceAfter (.next t) = .next t.advance ∧ t.advance.arch = t.arch ∧ t.advance.edge = t.edge + 1 ∧
    t.advance.script = t.script.tail ∧ (∀ e es, t.script = e :: es → t.advance.inp = e)) ∧
  (∀ (sw tw : Nat) (s : State sw tw) (i : Instr), s.inp.rst = false → decode s.dv = some i →
    stepAt s = advanceAfter (execAt i s)) ∧
  (∀ (i : Instr) (s : State), exec i s = execAt i s) ∧ (∀ s : State, step s = stepAt s) ∧ core = coreAt 16 32

/-- Words written out from the patterns of R36. -/
def Obligations.WordsOfTheOpcodeMapDecode : Prop :=
  decodeTableWord 8 0b0_00_0_0_0_0 = some .idle ∧ decodeTableWord 8 0b1_00_0_1_0_0 = some .sample ∧
  decodeTableWord 8 0b1_00_0_0_0_0 = some .endMeasure ∧ decodeTableWord 8 0b1_01_0_1_0_0 = some .settleWait ∧
  decodeTableWord 8 0b1_01_0_0_0_0 = some .endSettle ∧ decodeTableWord 8 0b1_10_0_0_0_0 = some .txWait ∧
  decodeTableWord 8 0b1_10_0_0_1_1 = some .txOk ∧ decodeTableWord 8 0b1_10_0_0_1_0 = some .txFail ∧
  decodeTableWord 8 0b1_10_1_1_0_0 = some .boWait ∧ decodeTableWord 8 0b1_10_1_0_0_0 = some .boEnd ∧
  decodeTableWord 8 0b1_11_0_0_0_0 = some .illegal

/-- Decoding and encoding are inverse on every operation and every value of its don't-care bits, through the table's
numbering of bits (R35, R36, R39; log entry 11). -/
def Obligations.DecodeInvertsEncode : Prop :=
  ∀ (i : Instr) (nbits : Nat), 7 ≤ nbits →
    (∀ fill, decodeTableWord nbits (encodeWith i fill).toNat = some i) ∧
    ∀ w, w < 2 ^ nbits → decodeTableWord nbits w = some i → (encodeWith i (BitVec.ofNat 7 w)).toNat = w

/-- R38: the fields a phase ignores do not change the operation. -/
def Obligations.DontCareFieldsAreIgnored : Prop :=
  (∀ l b b' d d' k k' p, p = Phase.meas ∨ p = Phase.settling →
    decode (assembleDv true p b l d k) = decode (assembleDv true p b' l d' k')) ∧
  (∀ l l' d k, decode (assembleDv true Phase.tx false l d k) = decode (assembleDv true Phase.tx false l' d k)) ∧
  (∀ l d d' k k', decode (assembleDv true Phase.tx true l d k) = decode (assembleDv true Phase.tx true l d' k')) ∧
  ∀ p p' b b' l l' d d' k k', decode (assembleDv false p b l d k) = decode (assembleDv false p' b' l' d' k')

/-- The condition column of R36, with the comparator's meaning (R54 to R56) in numbers, at every width R4 allows. -/
def Obligations.OperationByItsConditionInWords : Prop :=
  ∀ (sw tw : Nat) (s : State sw tw), paramsOk sw tw = true →
    (s.op = some .idle ↔ s.inp.step = false) ∧
    (s.op = some .sample ↔ s.inp.step = true ∧ s.phase = Phase.meas ∧ s.waitedMs < 50000) ∧
    (s.op = some .endMeasure ↔ s.inp.step = true ∧ s.phase = Phase.meas ∧ 50000 ≤ s.waitedMs) ∧
    (s.op = some .settleWait ↔ s.inp.step = true ∧ s.phase = Phase.settling ∧ s.waitedMs < 10000) ∧
    (s.op = some .endSettle ↔ s.inp.step = true ∧ s.phase = Phase.settling ∧ 10000 ≤ s.waitedMs) ∧
    (s.op = some .txWait ↔ s.inp.step = true ∧ s.phase = Phase.tx ∧ s.bo = false ∧ s.inp.txDone = false) ∧
    (s.op = some .txOk ↔
      s.inp.step = true ∧ s.phase = Phase.tx ∧ s.bo = false ∧ s.inp.txDone = true ∧ s.inp.txOk = true) ∧
    (s.op = some .txFail ↔
      s.inp.step = true ∧ s.phase = Phase.tx ∧ s.bo = false ∧ s.inp.txDone = true ∧ s.inp.txOk = false) ∧
    (s.op = some .boWait ↔ s.inp.step = true ∧ s.phase = Phase.tx ∧ s.bo = true ∧ s.waitedMs < 1000) ∧
    (s.op = some .boEnd ↔ s.inp.step = true ∧ s.phase = Phase.tx ∧ s.bo = true ∧ 1000 ≤ s.waitedMs) ∧
    (s.op = some .illegal ↔ s.inp.step = true ∧ s.phase = Phase.illegal)

/-! ### The comparator -/

/-- R54: the elapsed time is the modular difference, which is the true elapsed time across a wrap of `now`; at every width. -/
def Obligations.ElapsedIsTheModularDifference : Prop :=
  ∀ (sw tw : Nat) (s : State sw tw),
    s.elapsed.toNat = (s.inp.now.toNat + 2 ^ tw - s.ps.toNat) % 2 ^ tw ∧
    ∀ start real : Nat, s.ps = BitVec.ofNat tw start → s.inp.now = BitVec.ofNat tw real → start ≤ real →
      real - start < 2 ^ tw → s.elapsed.toNat = real - start

/-- R55: the threshold each phase selects, at every width R4 allows. -/
def Obligations.PhaseSelectsItsThreshold : Prop :=
  ∀ sw tw : Nat, paramsOk sw tw = true →
    (threshold tw 0b00#2).toNat = 50000 ∧ (threshold tw 0b01#2).toNat = 10000 ∧ (threshold tw 0b10#2).toNat = 1000 ∧
      (threshold tw 0b11#2).toNat = 1000

/-- R56: the comparison is strict and unsigned; an elapsed time equal to the threshold has reached it; at every
width. -/
def Obligations.ComparatorIsStrictAndUnsigned : Prop :=
  ∀ (sw tw : Nat) (s : State sw tw), (s.lt = true ↔ s.elapsed.toNat < (threshold tw s.phase).toNat) ∧
    (s.elapsed = threshold tw s.phase → s.lt = false)

/-! ### Reset -/

/-- R22, R81: a reset edge loads the reset values in any state, and the outputs show them. -/
def Obligations.ResetEdgeLoadsTheResetValues : Prop :=
  ∀ s : State, s.inp.rst = true →
    ∃ t, step s = .next t ∧ t.phase = 0b00#2 ∧ t.bo = false ∧ t.ps = s.inp.now ∧ (∀ c, t.mr.get c = 0x7FFF#16) ∧
      t.outputs.phaseO = 0b00#2 ∧ t.outputs.boO = false ∧ t.outputs.psO = s.inp.now ∧
      (∀ c, t.outputs.mrO.get c = 0x7FFF#16 ∧ t.outputs.pay.get c = 0#17) ∧ t.outputs.txReq = false

/-- The state the model starts from holds R22's values; its `ps` is the free draw of the reset edge's `now` (log entry 3,
the model's form of an input). -/
def Obligations.InitialStateHoldsTheResetValues : Prop :=
  State.reset.phase = 0b00#2 ∧ State.reset.bo = false ∧ State.reset.ps = Config.drawNow 32 0 ∧
    (∀ c, State.reset.mr.get c = 0x7FFF#16) ∧
    (∀ c, State.reset.outputs.pay.get c = 0#17) ∧ State.reset.outputs.txReq = false

/-- R82: a reset held for several edges leaves the reset values of its last edge. -/
def Obligations.HeldResetTakesItsLastEdge : Prop :=
  ∀ (s : State) (es : List Inputs) (e : Inputs), (∀ x ∈ es, x.rst = true) → e.rst = true →
    ∃ t, runEdges s (es ++ [e]) = .next t ∧ t.phase = Phase.meas ∧ t.bo = false ∧ t.ps = e.now ∧
      ∀ c, t.mr.get c = 0x7FFF#16

/-- R83: the first tick after reset is a SAMPLE or an END_MEASURE, and every payload is 0 until the first SAMPLE. -/
def Obligations.FirstTickAfterReset : Prop :=
  ∀ (s : State) (r : Inputs), r.rst = true →
    (∀ (idles : List Inputs) (k : Inputs), (∀ x ∈ idles, x.rst = false ∧ x.step = false) → k.isTick = true →
      ∃ t, runEdges s (r :: idles) = .next t ∧ t.phase = Phase.meas ∧
        t.performs k = some (if (k.now - r.now).toNat < 50000 then .sample else .endMeasure)) ∧
    ∀ (es : List Inputs) (t : State), runEdges s (r :: es) = .next t → some .sample ∉ operations s (r :: es) →
      ∀ c, t.outputs.pay.get c = 0#17

/-- Under the platform's boot duty (R79, R85, R24; its form is the model's, log entry 15): a run with a reset edge comes to
the same architectural state whatever the registers held at power-up; after the boot order of R85 the first window starts at
the `now` of its last reset edge; and where a converter or the network never gets ready, a run from a reset edge performs
only IDLE and reset, so that the machine stays in its reset state (R73). -/
def Obligations.BootForgetsThePowerUpState : Prop :=
  (∀ (sw tw : Nat) (hs : List (HostEdge sw tw)), bootDuty hs → (hs.any fun h => h.inputs.rst) = true →
    ∃ a : Arch sw tw, ∀ s : State sw tw, ∃ t, runEdges s (hs.map HostEdge.inputs) = .next t ∧ t.arch = a) ∧
  (∀ (sw tw : Nat) (s : State sw tw) (boot : List (HostEdge sw tw)) (last : HostEdge sw tw), bootOrder boot last →
    bootDuty (boot ++ [last]) ∧
    ∃ t, runEdges s ((boot ++ [last]).map HostEdge.inputs) = .next t ∧
      t.arch = ⟨Phase.meas, false, last.inputs.now, Lanes.fill (sentinel sw)⟩) ∧
  ∀ (sw tw : Nat) (s : State sw tw) (h : HostEdge sw tw) (hs : List (HostEdge sw tw)), h.inputs.rst = true →
    bootDuty (h :: hs) → (∀ x ∈ h :: hs, x.booted = false) →
    ∃ t, runEdges s ((h :: hs).map HostEdge.inputs) = .next t ∧ t.phase = Phase.meas ∧ t.bo = false ∧
      t.mr = Lanes.fill (sentinel sw) ∧
      ∀ i ∈ operations s ((h :: hs).map HostEdge.inputs), i = none ∨ i = some .idle

/-! ### The operations -/

/-- R70: IDLE changes nothing, in every phase, the illegal one among them. -/
def Obligations.IdleChangesNothing : Prop :=
  ∀ s : State, exec .idle s = .next s ∧
    (s.inp.rst = false → s.inp.step = false → step s = .next s.advance)

/-- R42: SAMPLE folds every lane with its sample at one edge and leaves all else. -/
def Obligations.SampleFoldsEveryLane : Prop :=
  ∀ s : State,
    (∃ t, exec .sample s = .next t ∧
      (∀ c, (t.mr.get c).toInt = min (s.mr.get c).toInt (s.inp.samp.get c).toInt) ∧
      t.phase = s.phase ∧ t.bo = s.bo ∧ t.ps = s.ps ∧ t.inp = s.inp ∧ t.script = s.script ∧ t.edge = s.edge) ∧
    (s.inp.isTick = true → s.phase = Phase.meas → s.waitedMs < 50000 → step s = advanceAfter (exec .sample s))

/-- R58: END_MEASURE enters SETTLING, records its start, and samples nothing. -/
def Obligations.EndMeasureEntersSettling : Prop :=
  ∀ s : State,
    (∃ t, exec .endMeasure s = .next t ∧ t.phase = Phase.settling ∧ t.ps = s.inp.now ∧ t.mr = s.mr ∧ t.bo = s.bo ∧
      t.inp = s.inp ∧ t.script = s.script ∧ t.edge = s.edge) ∧
    (s.inp.isTick = true → s.phase = Phase.meas → 50000 ≤ s.waitedMs → step s = advanceAfter (exec .endMeasure s))

/-- R59: SETTLE_WAIT changes nothing. -/
def Obligations.SettleWaitChangesNothing : Prop :=
  ∀ s : State, exec .settleWait s = .next s ∧
    (s.inp.isTick = true → s.phase = Phase.settling → s.waitedMs < 10000 → step s = .next s.advance)

/-- R60: END_SETTLE enters TRANSMITTING and leaves the timestamp and all else. -/
def Obligations.EndSettleEntersTransmitting : Prop :=
  ∀ s : State,
    (∃ t, exec .endSettle s = .next t ∧ t.phase = Phase.tx ∧ t.ps = s.ps ∧ t.bo = s.bo ∧ t.mr = s.mr ∧
      t.inp = s.inp ∧ t.script = s.script ∧ t.edge = s.edge) ∧
    (s.inp.isTick = true → s.phase = Phase.settling → 10000 ≤ s.waitedMs →
      step s = advanceAfter (exec .endSettle s))

/-- R62: TX_WAIT changes nothing, whatever the time and `tx_ok`. -/
def Obligations.TxWaitChangesNothing : Prop :=
  ∀ s : State, exec .txWait s = .next s ∧
    (s.inp.isTick = true → s.phase = Phase.tx → s.bo = false → s.inp.txDone = false →
      step s = .next s.advance ∧ s.advance.outputs.txReq = true)

/-- R64: TX_OK fills every lane with the sentinel and starts a measuring window now. -/
def Obligations.TxOkStartsANewCycle : Prop :=
  ∀ s : State,
    (∃ t, exec .txOk s = .next t ∧ (∀ c, t.mr.get c = 0x7FFF#16) ∧ t.phase = Phase.meas ∧ t.ps = s.inp.now ∧
      t.bo = s.bo ∧ t.inp = s.inp ∧ t.script = s.script ∧ t.edge = s.edge ∧ (∀ c, t.outputs.pay.get c = 0#17)) ∧
    (s.inp.isTick = true → s.phase = Phase.tx → s.bo = false → s.inp.txDone = true → s.inp.txOk = true →
      step s = advanceAfter (exec .txOk s))

/-- R65: TX_FAIL starts the backoff now and keeps the register file and so the payload. -/
def Obligations.TxFailStartsTheBackoff : Prop :=
  ∀ s : State,
    (∃ t, exec .txFail s = .next t ∧ t.bo = true ∧ t.ps = s.inp.now ∧ t.phase = s.phase ∧ t.mr = s.mr ∧
      t.inp = s.inp ∧ t.script = s.script ∧ t.edge = s.edge ∧ t.outputs.pay = s.outputs.pay ∧ t.outputs.txReq = false) ∧
    (s.inp.isTick = true → s.phase = Phase.tx → s.bo = false → s.inp.txDone = true → s.inp.txOk = false →
      step s = advanceAfter (exec .txFail s))

/-- R66: BO_WAIT changes nothing, whatever the client reports. -/
def Obligations.BoWaitChangesNothing : Prop :=
  ∀ s : State, exec .boWait s = .next s ∧
    (s.inp.isTick = true → s.phase = Phase.tx → s.bo = true → s.waitedMs < 1000 →
      step s = .next s.advance ∧ s.advance.outputs.txReq = false)

/-- R67: BO_END ends the backoff, so that in TRANSMITTING the request rises again with the same payload. -/
def Obligations.BoEndRearmsTheAttempt : Prop :=
  ∀ s : State,
    (∃ t, exec .boEnd s = .next t ∧ t.bo = false ∧ t.phase = s.phase ∧ t.ps = s.ps ∧ t.mr = s.mr ∧ t.inp = s.inp ∧
      t.script = s.script ∧ t.edge = s.edge ∧ (s.phase = Phase.tx → t.outputs.txReq = true)) ∧
    (s.inp.isTick = true → s.phase = Phase.tx → s.bo = true → 1000 ≤ s.waitedMs → step s = advanceAfter (exec .boEnd s))

/-- ILLEGAL stops with the fault IllegalPhase and writes no state (R68). Its code 1 and the four registers it records are
those of R72's table, where R68 names three: DEDUCED, log entry 7. -/
def Obligations.IllegalStopsWithItsFault : Prop :=
  ∀ s : State, exec .illegal s = .fault (.illegalPhase s.phase s.bo s.ps s.mr) ∧
    faultCode (.illegalPhase s.phase s.bo s.ps s.mr) = 1 ∧
    (s.inp.isTick = true → s.phase = Phase.illegal → step s = .fault (.illegalPhase s.phase s.bo s.ps s.mr))

/-- R57: a tick that changes the phase performs no action of the new phase: END_MEASURE samples nothing, END_SETTLE
consumes no outcome, TX_OK samples nothing. -/
def Obligations.PhaseChangePerformsNothingMore : Prop :=
  ∀ s t : State, s.inp.rst = false → step s = .next t → t.phase ≠ s.phase →
    (s.op = some .endMeasure ∧ t.mr = s.mr ∧ t.bo = s.bo) ∨
    (s.op = some .endSettle ∧ t.mr = s.mr ∧ t.bo = s.bo ∧ t.ps = s.ps) ∨
    (s.op = some .txOk ∧ (∀ c, t.mr.get c = 0x7FFF#16) ∧ t.bo = s.bo)

/-! ### The registers' writers -/

/-- R12: what every step does to the register file, by the edge: SAMPLE, TX_OK and reset write it, nothing else; the
payload ports show it at all times. At every width; at 16 bits the sentinel is 0x7FFF. -/
def Obligations.WritersOfTheRegisterFile : Prop :=
  sentinel 16 = 0x7FFF#16 ∧ ∀ (sw tw : Nat) (s t : State sw tw), stepAt s = .next t → ∀ c,
    (t.mr.get c =
      if s.inp.rst ∨ s.op = some .txOk then sentinel sw
      else if s.op = some .sample then smin (s.mr.get c) (s.inp.samp.get c)
      else s.mr.get c) ∧
    t.outputs.pay.get c = pay (t.mr.get c)

/-- R14: what every step does to the phase register, at every width. -/
def Obligations.WritersOfThePhase : Prop :=
  ∀ (sw tw : Nat) (s t : State sw tw), stepAt s = .next t →
    t.phase =
      if s.inp.rst ∨ s.op = some .txOk then Phase.meas
      else if s.op = some .endMeasure then Phase.settling
      else if s.op = some .endSettle then Phase.tx
      else s.phase

/-- R15: what every step does to the timestamp; only the comparator reads it, so that two states that differ in it alone
and compare alike do the same to every other register. At every width. -/
def Obligations.WritersAndReaderOfTheTimestamp : Prop :=
  (∀ (sw tw : Nat) (s t : State sw tw), stepAt s = .next t →
    t.ps =
      if s.inp.rst ∨ s.op = some .endMeasure ∨ s.op = some .txOk ∨ s.op = some .txFail then s.inp.now else s.ps) ∧
  ∀ (sw tw : Nat) (s t : State sw tw) (p : Time tw), s.lt = (s.setPs p).lt → stepAt s = .next t →
    ∃ u, stepAt (s.setPs p) = .next u ∧ u.phase = t.phase ∧ u.bo = t.bo ∧ u.mr = t.mr

/-- R16: what every step does to the backoff flag, at every width. -/
def Obligations.WritersOfTheBackoffFlag : Prop :=
  ∀ (sw tw : Nat) (s t : State sw tw), stepAt s = .next t →
    t.bo = if s.inp.rst ∨ s.op = some .boEnd then false else if s.op = some .txFail then true else s.bo

/-! ### The multiplier, the payload and the output ports -/

/-- R47: the product is the magnitude times 3, in sixteenths of a millivolt, and the sign does not matter; at every
width. -/
def Obligations.MultiplierIsExact : Prop :=
  (∀ (w : Nat) (v : BitVec w), (mul3over16 v).toNat = 3 * v.toInt.natAbs) ∧
  (∀ v : Sample, millivolts (mul3over16 v) = |(v.toInt : Rat)| * (3 / 16)) ∧
  (∀ v v' : Sample, v'.toInt = -v.toInt → mul3over16 v' = mul3over16 v) ∧
  mul3over16 0x8000#16 = 0x18000#17 ∧ ∀ v : Sample, (mul3over16 v).toNat ≤ 98304

/-- R48: the results are exactly the multiples of 3 up to 98304, with their integer and fraction parts. -/
def Obligations.ProductNeverRoundsOrOverflows : Prop :=
  (∀ v : Sample, millivolts (mul3over16 v) = |(v.toInt : Rat)| * Config.lsbMillivolts) ∧
  (∀ m : Payload, (∃ v : Sample, mul3over16 v = m) ↔ ∃ a, a ≤ 32768 ∧ m.toNat = 3 * a) ∧
  ∀ v : Sample, (integerPart (mul3over16 v)).toNat = 3 * v.toInt.natAbs / 16 ∧
    (integerPart (mul3over16 v)).toNat ≤ 6144 ∧ (fractionPart (mul3over16 v)).toNat = 3 * v.toInt.natAbs % 16

/-- R49: the shift-and-add circuit gives the product for every input. -/
def Obligations.ShiftAndAddCircuitConforms : Prop :=
  ∀ v a : BitVec 16, a = (if v.msb then ~~~v + 1#16 else v) →
    mul3over16 v = (a.zeroExtend 17 <<< 1) + a.zeroExtend 17

/-- R50: the payload of a lane: 0 for the sentinel, else the product; 0 for 0 as well. -/
def Obligations.PayloadSubstitutesTheSentinel : Prop :=
  (∀ r : Sample, (r = 0x7FFF#16 → pay r = 0#17) ∧ (r ≠ 0x7FFF#16 → pay r = mul3over16 r)) ∧ pay 0#16 = 0#17

/-- The exact value the Transmission Client prints (R50, R52): the payload in units of 10^-4 millivolt is 0 for the
sentinel and 1875 times the magnitude otherwise, a natural number, so at most four fraction digits. At every width. -/
def Obligations.PayloadHasAFourDigitDecimalForm : Prop :=
  ∀ (sw : Nat) (r : Sample sw),
    millivolts (pay r) * 10 ^ 4 = ((if r = sentinel sw then 0 else 1875 * r.toInt.natAbs : Nat) : Rat)

/-- R21, R51, R61: each output port, and that the ports depend on the architectural state alone. -/
def Obligations.OutputsAreFunctionsOfTheState : Prop :=
  (∀ s t : State, s.arch = t.arch → s.outputs = t.outputs) ∧
  ∀ s : State, s.outputs.phaseO = s.phase ∧ s.outputs.boO = s.bo ∧ s.outputs.psO = s.ps ∧
    (∀ c, s.outputs.mrO.get c = s.mr.get c ∧ s.outputs.pay.get c = pay (s.mr.get c)) ∧
    (s.outputs.txReq = true ↔ s.phase = Phase.tx ∧ s.bo = false)

/-- R11: the channels' devices, sub-channels and payload fields. -/
def Obligations.ChannelsAreBoundToDevicesAndFields : Prop :=
  (∀ c : Channel, (c.val ≤ 3 → deviceOf c = .a ∧ subChannelOf c = c.val) ∧
    (4 ≤ c.val → deviceOf c = .b ∧ subChannelOf c = c.val - 4)) ∧
  [0, 1, 2, 3, 4, 5, 6, 7].map fieldOf =
    [PayloadField.x1, .x2, .y1, .y2, .d1, .d2, .z1, .z2] ∧
  (∀ (s : State) (c : Channel), s.payloadField (fieldOf c) = s.outputs.pay.get c)

/-- R61: the request, where an attempt begins, and where it ends (a reset abandons it, R81). -/
def Obligations.AttemptBeginsAndEnds : Prop :=
  ∀ s t : State, step s = .next t →
    (s.arch.txReq = true ↔ s.phase = Phase.tx ∧ s.bo = false) ∧
    (s.arch.txReq = false → t.arch.txReq = true → s.op = some .endSettle ∨ s.op = some .boEnd) ∧
    (s.arch.txReq = true → t.arch.txReq = false → s.inp.rst = true ∨
      (s.inp.txDone = true ∧ (s.op = some .txOk ∨ s.op = some .txFail)))

/-! ### Legal states -/

/-- The machine starts in a legal state. -/
def Obligations.InitialStateIsLegal : Prop :=
  State.reset.Legal

/-- Every step from a legal state leads to a legal state (R17's invariant, as an invariant of the step), at every
width and so at the host's step. -/
def Obligations.EveryStepKeepsLegality : Prop :=
  (∀ (sw tw : Nat) (s t : State sw tw), s.Legal → stepAt s = .next t → t.Legal) ∧
  ∀ s t : State, s.Legal → step s = .next t → t.Legal

/-- R17: the invariants of every state reachable from reset, at every width. -/
def Obligations.ReachableStatesAreLegal : Prop :=
  ∀ (sw tw : Nat) (s : State sw tw), Reachable s → s.phase ≠ 0b11#2 ∧ (s.bo = true → s.phase = Phase.tx)

/-- R72: a legal state never faults: it runs any inputs for any number of edges, at every width. -/
def Obligations.LegalStatesRunForEver : Prop :=
  ∀ (sw tw : Nat) (s : State sw tw) (es : List (Inputs sw tw)), s.Legal → ∃ t, runEdges s es = .next t

/-- The one fault, where it is raised (R37, R68, R76), and that no step is refused (R35). That it records all four
registers is R72's table, where R68 names three: DEDUCED, log entry 7. -/
def Obligations.FaultsExactlyOnATickInTheIllegalPhase : Prop :=
  ∀ s : State,
    (∀ r, step s = .fault r ↔
      s.inp.rst = false ∧ s.inp.step = true ∧ s.phase = 0b11#2 ∧ r = .illegalPhase s.phase s.bo s.ps s.mr) ∧
    ∀ r, step s ≠ .refused r

/-- R72: a fault ends the run: no later step clears it. At every width. -/
def Obligations.FaultIsSticky : Prop :=
  ∀ (sw tw : Nat) (s t : State sw tw) (es rest : List (Inputs sw tw)) (e : Inputs sw tw) (r : Fault sw tw), runEdges s es = .next t → edgeStep t e = .fault r →
    runEdges s (es ++ e :: rest) = .fault r

/-- The phase transitions, and there are no others (R69's table), at every width. -/
def Obligations.TransitionGraph : Prop :=
  ∀ (sw tw : Nat) (s t : State sw tw), s.Legal → s.inp.rst = false → stepAt s = .next t →
    ∃ i, s.op = some i ∧
      ((s.phase, s.bo), i, (t.phase, t.bo)) ∈
        [((Phase.meas, false), Instr.sample, (Phase.meas, false)),
          ((Phase.meas, false), .endMeasure, (Phase.settling, false)),
          ((Phase.settling, false), .settleWait, (Phase.settling, false)),
          ((Phase.settling, false), .endSettle, (Phase.tx, false)),
          ((Phase.tx, false), .txWait, (Phase.tx, false)),
          ((Phase.tx, false), .txOk, (Phase.meas, false)),
          ((Phase.tx, false), .txFail, (Phase.tx, true)),
          ((Phase.tx, true), .boWait, (Phase.tx, true)),
          ((Phase.tx, true), .boEnd, (Phase.tx, false)),
          ((s.phase, s.bo), .idle, (s.phase, s.bo))] ∧
      (i ≠ .endMeasure → i ≠ .txOk → i ≠ .txFail → t.ps = s.ps) ∧
      (i = .endMeasure ∨ i = .txOk ∨ i = .txFail → t.ps = s.inp.now) ∧
      (i ≠ .sample → i ≠ .txOk → t.mr = s.mr)

/-! ### Lanes and inputs -/

/-- R43: a lane's next value depends on no other lane and on no other lane's sample, at every width. -/
def Obligations.LanesAreIndependent : Prop :=
  ∀ (sw tw : Nat) (s t u : State sw tw) (c : Channel) (m v : Lanes (Sample sw)), m.get c = s.mr.get c → v.get c = s.inp.samp.get c →
    stepAt s = .next t → stepAt { s with mr := m, inp := { s.inp with samp := v } } = .next u →
    u.mr.get c = t.mr.get c

/-- R20: an input that is not sampled at an edge has no effect at that edge. At every width. -/
def Obligations.UnsampledInputsHaveNoEffect : Prop :=
  ∀ (sw tw : Nat) (s : State sw tw) (e e' : Inputs sw tw), sampledAlike s e e' = true →
    (∀ t, edgeStep s e = .next t → ∃ t', edgeStep s e' = .next t' ∧ t'.arch = t.arch) ∧
    ∀ r, edgeStep s e = .fault r → edgeStep s e' = .fault r

/-- A lane never rises at an edge that fills nothing (R44). -/
def Obligations.LaneNeverRisesBetweenFills : Prop :=
  ∀ (s t : State) (c : Channel), s.inp.rst = false → s.op ≠ some .txOk → step s = .next t →
    (t.mr.get c).toInt ≤ (s.mr.get c).toInt

/-! ### Runs -/

/-- R44: over a run from a filled lane to which no further fill belongs, the lane is the minimum of the sentinel and of
the readings. At every width of at least 1, at which the sentinel is the largest value, 32767 at 16 bits. -/
def Obligations.MinHoldLaw : Prop :=
  (sentinel 16).toInt = 32767 ∧
  ∀ (sw tw : Nat) (c : Channel) (s t : State sw tw) (es : List (Inputs sw tw)), 1 ≤ sw → s.mr.get c = sentinel sw → (∀ e ∈ es, e.rst = false) →
    some .txOk ∉ operations s es → runEdges s es = .next t →
    (t.mr.get c).toInt = ((readings c s es).map BitVec.toInt).foldl min (2 ^ (sw - 1) - 1) ∧
    (readings c s es = [] → t.mr.get c = sentinel sw) ∧
    (∀ r rs, readings c s es = r :: rs → (t.mr.get c).toInt = (rs.map BitVec.toInt).foldl min r.toInt) ∧
    ∀ v ∈ visits s es, (t.mr.get c).toInt ≤ (v.1.mr.get c).toInt

/-- R46: a lane whose every reading was the sentinel reports 0, like one never sampled. -/
def Obligations.SentinelReadingsReportZero : Prop :=
  (∀ (s : State) (c : Channel), s.mr.get c = 0x7FFF#16 → s.outputs.pay.get c = 0#17) ∧
  ∀ (c : Channel) (s t : State) (es : List Inputs), s.mr.get c = 0x7FFF#16 → (∀ r ∈ readings c s es, r = 0x7FFF#16) →
    runEdges s es = .next t → t.outputs.pay.get c = 0#17

/-- R86: from the END_MEASURE edge to the TX_OK edge of the same cycle the register file and every payload stay as they
were. -/
def Obligations.PayloadIsStableThroughTheCycle : Prop :=
  ∀ (s t : State) (e : Inputs) (es : List Inputs), s.performs e = some .endMeasure → edgeStep s e = .next t →
    (∀ x ∈ es, x.rst = false) → some .txOk ∉ operations t es →
    (∀ v ∈ visits t es, v.1.mr = s.mr ∧ v.1.outputs.pay = s.outputs.pay) ∧
    ∀ u, runEdges t es = .next u → u.mr = s.mr ∧ u.outputs.pay = s.outputs.pay

/-- After a TX_OK every payload is 0 until the next SAMPLE (R69, law 5). -/
def Obligations.ZeroPayloadAfterSuccess : Prop :=
  ∀ (s t u : State) (e : Inputs) (es : List Inputs), s.performs e = some .txOk → edgeStep s e = .next t →
    runEdges t es = .next u → some .sample ∉ operations t es → ∀ c, u.outputs.pay.get c = 0#17

/-- Edges without ticks change no register, in any phase (R7, R70, R73). -/
def Obligations.IdleRunChangesNothing : Prop :=
  ∀ (s : State) (es : List Inputs), (∀ e ∈ es, e.rst = false ∧ e.step = false) →
    ∃ t, runEdges s es = .next t ∧ t.arch = s.arch

/-- No timeout: an attempt that is never reported ended keeps the machine as it is (R62). -/
def Obligations.AttemptHasNoTimeout : Prop :=
  ∀ (s : State) (es : List Inputs), s.arch.txReq = true → (∀ e ∈ es, e.rst = false ∧ e.txDone = false) →
    ∃ t, runEdges s es = .next t ∧ t.arch = s.arch

/-- Inside the settle window and inside the backoff nothing changes, whatever stands on the other inputs (R59, R66). -/
def Obligations.WaitingWindowsBlock : Prop :=
  ∀ (s : State) (es : List Inputs), s.phase = Phase.settling ∨ (s.phase = Phase.tx ∧ s.bo = true) →
    (∀ e ∈ es, e.rst = false ∧ (s.facing e).waitedMs < if s.phase = Phase.settling then 10000 else 1000) →
    ∃ t, runEdges s es = .next t ∧ t.arch = s.arch

/-- A `tx_done` still high at the first tick of an attempt is taken as that attempt's outcome (R87). -/
def Obligations.StaleOutcomeIsTaken : Prop :=
  ∀ (s t : State) (e k : Inputs), s.Legal → s.performs e = some .endSettle ∨ s.performs e = some .boEnd →
    edgeStep s e = .next t → k.isTick = true → k.txDone = true →
    t.performs k = some (if k.txOk then .txOk else .txFail)

/-- The window laws 1 to 3 of R69 in real time, over a run with any idle edges and resets, at every width R4 allows. The
form of the premise is the model's, not R79's or R69's words (DESIGN CHOICE, log entries 15 and 17): real time stands on the
edges, idle edges are under no duty, and the spacing `D` is counted from the last tick or reset. -/
def Obligations.WindowLawsHoldInRealTime : Prop :=
  ∀ (sw tw D : Nat) (s : State sw tw) (psTime prev : Nat) (hs : List (HostEdge sw tw)), paramsOk sw tw = true →
    s.Legal → s.ps = BitVec.ofNat tw psTime → psTime ≤ prev →
    s.arch.txReq = true ∨ prev - psTime < (threshold tw s.phase).toNat →
    (∀ v ∈ hostVisits s psTime prev hs, timeDuty v ∧ tickSpacing D v) → ∀ v ∈ hostVisits s psTime prev hs, windowLaw D v

/-- Under the duties of the front end and the client an outcome is consumed exactly where the attempt has ended, and a
SAMPLE edge makes every lane the minimum of itself and of the conversion of its channel made for that tick (R42, R61, R79,
R87, R88). The form of the duties is the model's (DESIGN CHOICE, log entry 15). At every width. -/
def Obligations.DutifulHostGetsTrueExchanges : Prop :=
  ∀ (sw tw : Nat) (s : State sw tw) (psTime prev : Nat) (hs : List (HostEdge sw tw)),
    (∀ v ∈ hostVisits s psTime prev hs, frontEndDuty v ∧ clientDuty v) →
    ∀ v ∈ hostVisits s psTime prev hs, exchangeLaw v

/-! ### Tick scripts -/

/-- The model's way of running a tick script agrees with laying its lines on the ports one by one. R41 gives the lines and
what each means at its edge; all else here is the model's choice (DESIGN CHOICE): that `State.load` places a script in the
state as the coming edges (log entry 9), that `advance` takes the script's next entry to the ports (log entry 2), that
levels a line does not give are 0 (log entry 5), and that an ill-formed script is refused as a whole when it is loaded
(log entry 6). -/
def Obligations.LoadedScriptRunsAsLaidDown : Prop :=
  ∀ (s t u : State) (ls : List ScriptLine), s.load ls = .next t → runEdges s (ls.map ScriptLine.inputs) = .next u →
    ∃ u' : State, runSteps ls.length t = .next u' ∧ u'.arch = u.arch

/-- A script is refused where a SAMPLE tick of it gives no `samp`, and accepted if each TICK gives it (R41, R72). That the
refusal comes when the script is loaded, and of the whole script, is the model's choice (DESIGN CHOICE, log entry 6), as are
`State.load` (log entry 9) and the levels a line does not give (log entry 5). -/
def Obligations.ScriptWithoutSampIsRefused : Prop :=
  (∀ (s t : State) (ls rest : List ScriptLine) (l : ScriptLine),
    runEdges s (ls.map ScriptLine.inputs) = .next t → t.performs l.inputs = some .sample → l.givesSamp = false →
    s.load (ls ++ l :: rest) = .refused .sampleWithoutSamp) ∧
  ∀ (s : State) (ls : List ScriptLine), (∀ l ∈ ls, l.inputs.step = true → l.givesSamp = true) →
    ∃ t, s.load ls = .next t
end

