-- ==== Sys2Proof/Laws/Decode.lean ====
section
/-! SUPPORT. Laws/Decode: the decoder seen through the vector's fields. -/

namespace Sys2Proof

/-- The operation as the conditions of the opcode map name it, field by field (R36). -/
def operationOf (s : Bool) (p : Phase) (b l d k : Bool) : Instr :=
  bif !s then .idle
  else bif p == Phase.meas then bif l then .sample else .endMeasure
  else bif p == Phase.settling then bif l then .settleWait else .endSettle
  else bif p == Phase.illegal then .illegal
  else bif b then bif l then .boWait else .boEnd
  else bif d then bif k then .txOk else .txFail
  else .txWait

/-- A phase register holds one of four values. -/
theorem phase_cases (p : Phase) :
    p = Phase.meas ∨ p = Phase.settling ∨ p = Phase.tx ∨ p = Phase.illegal := by
  revert p; decide

/-- What the decoder answers on an assembled vector, for every value of its fields. -/
theorem decode_assembleDv (s : Bool) (p : Phase) (b l d k : Bool) :
    decode (assembleDv s p b l d k) = some (operationOf s p b l d k) := by
  revert s p b l d k; decide

/-- Every decode vector is the assembly of its fields. -/
theorem assembleDv_fields (dv : DecodeVector) :
    assembleDv (dvStep dv) (dvPhase dv) (dvBo dv) (dvLt dv) (dvTxDone dv) (dvTxOk dv) = dv := by
  revert dv; decide

end Sys2Proof
end

