-- ==== Sys2Proof/Laws/Lanes.lean ====
section
/-! SUPPORT. Laws/Lanes: what a lane holds after each operation on lanes. -/

namespace Sys2Proof

variable {α β γ : Type}

/-- A fact about every channel, from the eight channels. -/
theorem forall_channel {P : Channel → Prop} :
    (∀ c, P c) ↔ P 0 ∧ P 1 ∧ P 2 ∧ P 3 ∧ P 4 ∧ P 5 ∧ P 6 ∧ P 7 :=
  ⟨fun h => ⟨h 0, h 1, h 2, h 3, h 4, h 5, h 6, h 7⟩,
    fun ⟨h0, h1, h2, h3, h4, h5, h6, h7⟩ c =>
      match c with
      | 0 => h0 | 1 => h1 | 2 => h2 | 3 => h3 | 4 => h4 | 5 => h5 | 6 => h6 | 7 => h7⟩

@[simp] theorem Lanes.get_ofFn (f : Channel → α) (c : Channel) : (Lanes.ofFn f).get c = f c :=
  (forall_channel (P := fun c => (Lanes.ofFn f).get c = f c)).2 ⟨rfl, rfl, rfl, rfl, rfl, rfl, rfl, rfl⟩ c

@[simp] theorem Lanes.get_fill (a : α) (c : Channel) : (Lanes.fill a).get c = a := by
  simp [Lanes.fill]

@[simp] theorem Lanes.get_map (f : α → β) (l : Lanes α) (c : Channel) : (l.map f).get c = f (l.get c) := by
  simp [Lanes.map]

@[simp] theorem Lanes.get_zipWith (f : α → β → γ) (l : Lanes α) (m : Lanes β) (c : Channel) :
    (Lanes.zipWith f l m).get c = f (l.get c) (m.get c) := by
  simp [Lanes.zipWith]

/-- Lanes that hold the same in every channel are the same. -/
theorem Lanes.ext_get {l m : Lanes α} (h : ∀ c, l.get c = m.get c) : l = m := by
  obtain ⟨h0, h1, h2, h3, h4, h5, h6, h7⟩ := forall_channel.1 h
  cases l; cases m
  simp_all [Lanes.get]

end Sys2Proof
end

