-- ==== Sys2Proof/Laws/State.lean ====
section
/-! SUPPORT. Laws/State: each field after each update of a state, and the architectural part. -/

namespace Sys2Proof.Machine

variable {sw tw : Nat} (s : State sw tw)

@[simp] theorem State.phase_setPhase (p : Phase) : (s.setPhase p).phase = p := rfl
@[simp] theorem State.bo_setPhase (p : Phase) : (s.setPhase p).bo = s.bo := rfl
@[simp] theorem State.ps_setPhase (p : Phase) : (s.setPhase p).ps = s.ps := rfl
@[simp] theorem State.mr_setPhase (p : Phase) : (s.setPhase p).mr = s.mr := rfl
@[simp] theorem State.inp_setPhase (p : Phase) : (s.setPhase p).inp = s.inp := rfl
@[simp] theorem State.script_setPhase (p : Phase) : (s.setPhase p).script = s.script := rfl
@[simp] theorem State.edge_setPhase (p : Phase) : (s.setPhase p).edge = s.edge := rfl

@[simp] theorem State.phase_setBo (b : Bool) : (s.setBo b).phase = s.phase := rfl
@[simp] theorem State.bo_setBo (b : Bool) : (s.setBo b).bo = b := rfl
@[simp] theorem State.ps_setBo (b : Bool) : (s.setBo b).ps = s.ps := rfl
@[simp] theorem State.mr_setBo (b : Bool) : (s.setBo b).mr = s.mr := rfl
@[simp] theorem State.inp_setBo (b : Bool) : (s.setBo b).inp = s.inp := rfl
@[simp] theorem State.script_setBo (b : Bool) : (s.setBo b).script = s.script := rfl
@[simp] theorem State.edge_setBo (b : Bool) : (s.setBo b).edge = s.edge := rfl

@[simp] theorem State.phase_setPs (t : Time tw) : (s.setPs t).phase = s.phase := rfl
@[simp] theorem State.bo_setPs (t : Time tw) : (s.setPs t).bo = s.bo := rfl
@[simp] theorem State.ps_setPs (t : Time tw) : (s.setPs t).ps = t := rfl
@[simp] theorem State.mr_setPs (t : Time tw) : (s.setPs t).mr = s.mr := rfl
@[simp] theorem State.inp_setPs (t : Time tw) : (s.setPs t).inp = s.inp := rfl
@[simp] theorem State.script_setPs (t : Time tw) : (s.setPs t).script = s.script := rfl
@[simp] theorem State.edge_setPs (t : Time tw) : (s.setPs t).edge = s.edge := rfl

@[simp] theorem State.phase_setMr (m : Lanes (Sample sw)) : (s.setMr m).phase = s.phase := rfl
@[simp] theorem State.bo_setMr (m : Lanes (Sample sw)) : (s.setMr m).bo = s.bo := rfl
@[simp] theorem State.ps_setMr (m : Lanes (Sample sw)) : (s.setMr m).ps = s.ps := rfl
@[simp] theorem State.mr_setMr (m : Lanes (Sample sw)) : (s.setMr m).mr = m := rfl
@[simp] theorem State.inp_setMr (m : Lanes (Sample sw)) : (s.setMr m).inp = s.inp := rfl
@[simp] theorem State.script_setMr (m : Lanes (Sample sw)) : (s.setMr m).script = s.script := rfl
@[simp] theorem State.edge_setMr (m : Lanes (Sample sw)) : (s.setMr m).edge = s.edge := rfl

@[simp] theorem State.phase_resetEdge : s.resetEdge.phase = Phase.meas := rfl
@[simp] theorem State.bo_resetEdge : s.resetEdge.bo = false := rfl
@[simp] theorem State.ps_resetEdge : s.resetEdge.ps = s.inp.now := rfl
@[simp] theorem State.mr_resetEdge : s.resetEdge.mr = freshLanes sw := rfl
@[simp] theorem State.inp_resetEdge : s.resetEdge.inp = s.inp := rfl
@[simp] theorem State.script_resetEdge : s.resetEdge.script = s.script := rfl
@[simp] theorem State.edge_resetEdge : s.resetEdge.edge = s.edge := rfl

@[simp] theorem State.phase_advance : s.advance.phase = s.phase := rfl
@[simp] theorem State.bo_advance : s.advance.bo = s.bo := rfl
@[simp] theorem State.ps_advance : s.advance.ps = s.ps := rfl
@[simp] theorem State.mr_advance : s.advance.mr = s.mr := rfl
@[simp] theorem State.inp_advance : s.advance.inp = nextInputs s.script (s.edge + 1) := rfl
@[simp] theorem State.script_advance : s.advance.script = s.script.tail := rfl
@[simp] theorem State.edge_advance : s.advance.edge = s.edge + 1 := rfl

@[simp] theorem State.phase_facing (e : Inputs sw tw) : (s.facing e).phase = s.phase := rfl
@[simp] theorem State.bo_facing (e : Inputs sw tw) : (s.facing e).bo = s.bo := rfl
@[simp] theorem State.ps_facing (e : Inputs sw tw) : (s.facing e).ps = s.ps := rfl
@[simp] theorem State.mr_facing (e : Inputs sw tw) : (s.facing e).mr = s.mr := rfl
@[simp] theorem State.inp_facing (e : Inputs sw tw) : (s.facing e).inp = e := rfl
@[simp] theorem State.script_facing (e : Inputs sw tw) : (s.facing e).script = s.script := rfl
@[simp] theorem State.edge_facing (e : Inputs sw tw) : (s.facing e).edge = s.edge := rfl

@[simp] theorem State.phase_arch : s.arch.phase = s.phase := rfl
@[simp] theorem State.bo_arch : s.arch.bo = s.bo := rfl
@[simp] theorem State.ps_arch : s.arch.ps = s.ps := rfl
@[simp] theorem State.mr_arch : s.arch.mr = s.mr := rfl
@[simp] theorem State.arch_advance : s.advance.arch = s.arch := rfl
@[simp] theorem State.arch_facing (e : Inputs sw tw) : (s.facing e).arch = s.arch := rfl
@[simp] theorem State.facing_facing (e e' : Inputs sw tw) : (s.facing e).facing e' = s.facing e' := rfl
@[simp] theorem State.facing_inp : s.facing s.inp = s := rfl
@[simp] theorem State.arch_resetEdge : s.resetEdge.arch = ⟨Phase.meas, false, s.inp.now, freshLanes sw⟩ := rfl

@[simp] theorem State.timeOperand_eq : s.timeOperand = s.inp.now := rfl
@[simp] theorem State.sampleOperand_eq : s.sampleOperand = s.inp.samp := rfl
@[simp] theorem State.doneOperand_eq : s.doneOperand = s.inp.txDone := rfl
@[simp] theorem State.outcomeOperand_eq : s.outcomeOperand = s.inp.txOk := rfl

/-- Two states with the same registers have the same architectural part. -/
theorem State.arch_eq_iff (t : State sw tw) :
    s.arch = t.arch ↔ s.phase = t.phase ∧ s.bo = t.bo ∧ s.ps = t.ps ∧ s.mr = t.mr := by
  simp [State.arch]

end Sys2Proof.Machine
end

