-- ==== Sys2Proof/Laws/Ops.lean ====
section
/-! SUPPORT. Laws/Ops: one lemma for what each shared operation does. -/

namespace Sys2Proof.Machine

variable {sw tw : Nat} (s : State sw tw)

/-- The operation of the coming edge, by the registers, the ports and the comparator. -/
theorem State.op_eq :
    s.op = some (operationOf s.inp.step s.phase s.bo s.lt s.inp.txDone s.inp.txOk) :=
  decode_assembleDv _ _ _ _ _ _

/-- When the coming edge's operation is which, by the comparator's output: the condition column of R36. -/
theorem State.op_iff :
    (s.op = some .idle ↔ s.inp.step = false) ∧
    (s.op = some .sample ↔ s.inp.step = true ∧ s.phase = Phase.meas ∧ s.lt = true) ∧
    (s.op = some .endMeasure ↔ s.inp.step = true ∧ s.phase = Phase.meas ∧ s.lt = false) ∧
    (s.op = some .settleWait ↔ s.inp.step = true ∧ s.phase = Phase.settling ∧ s.lt = true) ∧
    (s.op = some .endSettle ↔ s.inp.step = true ∧ s.phase = Phase.settling ∧ s.lt = false) ∧
    (s.op = some .txWait ↔ s.inp.step = true ∧ s.phase = Phase.tx ∧ s.bo = false ∧ s.inp.txDone = false) ∧
    (s.op = some .txOk ↔
      s.inp.step = true ∧ s.phase = Phase.tx ∧ s.bo = false ∧ s.inp.txDone = true ∧ s.inp.txOk = true) ∧
    (s.op = some .txFail ↔
      s.inp.step = true ∧ s.phase = Phase.tx ∧ s.bo = false ∧ s.inp.txDone = true ∧ s.inp.txOk = false) ∧
    (s.op = some .boWait ↔ s.inp.step = true ∧ s.phase = Phase.tx ∧ s.bo = true ∧ s.lt = true) ∧
    (s.op = some .boEnd ↔ s.inp.step = true ∧ s.phase = Phase.tx ∧ s.bo = true ∧ s.lt = false) ∧
    (s.op = some .illegal ↔ s.inp.step = true ∧ s.phase = Phase.illegal) := by
  simp only [State.op_eq, Option.some.injEq]
  generalize s.phase = p; generalize s.inp.step = a; generalize s.bo = b; generalize s.lt = l
  generalize s.inp.txDone = d; generalize s.inp.txOk = k
  refine ⟨?_, ?_, ?_, ?_, ?_, ?_, ?_, ?_, ?_, ?_, ?_⟩ <;> revert p a b l d k <;> decide

/-- The comparator in numbers. -/
theorem State.lt_eq : s.lt = decide (s.waitedMs < (threshold tw s.phase).toNat) := by
  have : s.elapsed.toNat = s.waitedMs := by
    simp only [State.elapsed, modularSub, State.waitedMs, BitVec.toNat_sub, State.timeOperand_eq]
    congr 1
    have := s.ps.isLt
    omega
  simp only [State.lt, insideWindow, BitVec.ult, this]

/-- The thresholds as numbers, in a timer wide enough for them. -/
theorem toNat_threshold (h : paramsOk sw tw = true) (p : Phase) :
    (threshold tw p).toNat = if p = Phase.meas then 50000 else if p = Phase.settling then 10000 else 1000 := by
  simp only [paramsOk, Bool.and_eq_true, decide_eq_true_eq] at h
  obtain ⟨⟨⟨-, h1⟩, h2⟩, h3⟩ := h
  unfold Config.tMeas at h1; unfold Config.tSet at h2; unfold Config.tBo at h3
  unfold threshold Config.tMeas Config.tSet Config.tBo
  split
  · simpa using Nat.mod_eq_of_lt h1
  · split
    · simpa using Nat.mod_eq_of_lt h2
    · simpa using Nat.mod_eq_of_lt h3

/-- The sentinel is the largest value of its width (R12). -/
theorem toInt_sentinel {w : Nat} (h : 1 ≤ w) : (sentinel w).toInt = 2 ^ (w - 1) - 1 := by
  obtain ⟨n, rfl⟩ : ∃ n, w = n + 1 := ⟨w - 1, by omega⟩
  have hp : 0 < 2 ^ n := Nat.two_pow_pos n
  have e : 2 ^ (n + 1) = 2 * 2 ^ n := by rw [Nat.pow_succ]; omega
  have hn : (sentinel (n + 1)).toNat = 2 ^ n - 1 := by
    simp only [sentinel, BitVec.toNat_ofNat, Nat.add_sub_cancel]
    exact Nat.mod_eq_of_lt (by omega)
  rw [BitVec.toInt_eq_toNat_cond, hn, if_pos (by omega)]
  simp only [Nat.add_sub_cancel]
  push_cast [hp]
  omega

/-- The minimum of two words is the minimum of the integers they stand for. -/
theorem toInt_smin {w : Nat} (a b : BitVec w) : (smin a b).toInt = min a.toInt b.toInt := by
  unfold smin BitVec.sle
  split
  · simp_all
  · simp_all; omega

/-- A lane after the lane-wise minimum. -/
@[simp] theorem get_minUpdate (m v : Lanes (Sample sw)) (c : Channel) :
    (minUpdate m v).get c = smin (m.get c) (v.get c) := by
  simp [minUpdate]

/-- A lane of a fresh register file. -/
@[simp] theorem get_freshLanes (c : Channel) : (freshLanes sw).get c = sentinel sw := by
  simp [freshLanes]

/-- The sentinel's payload. -/
@[simp] theorem pay_sentinel : pay (sentinel sw) = 0#_ := if_pos rfl

/-- At the default width (R4, R12). -/
theorem sentinel_default : sentinel 16 = 0x7FFF#16 := by decide

/-- A state made to form a decode vector forms it. -/
theorem dv_placeDv (h : paramsOk sw tw = true) (dv : DecodeVector) : (s.placeDv dv).dv = dv := by
  have key : ∀ (p : Phase) (l : Bool),
      insideWindow (modularSub (if l then 0#_ else threshold tw p) 0#_) (threshold tw p) = l := by
    intro p l
    have := toNat_threshold h p
    cases l <;> simp [insideWindow, modularSub, BitVec.ult, this]
    split <;> [skip; split] <;> omega
  have hlt : (s.placeDv dv).lt = dvLt dv := key _ _
  unfold State.dv
  rw [hlt]
  exact assembleDv_fields dv

end Sys2Proof.Machine
end

