-- ==== Sys2Proof/Laws/PerInstr.lean ====
section
/-! SUPPORT. Laws/PerInstr: what holds of every operation as written: it is well formed, and whatever its don't-care
bits are, its vectors match its own row (30_encoding R36, R38, R40). -/

namespace Sys2Proof.Laws.RowExact

/-- The operation is well formed, its row is in the map, and each of its vectors matches its row. -/
def Statement (i : Instr) : Prop :=
  i.wellFormed = true ∧ i ∈ opcodeMap ∧ ∀ fill, rowMatches (encodeWith i fill) i = true

theorem idle : Statement .idle := ⟨rfl, by decide, by decide⟩
theorem sample : Statement .sample := ⟨rfl, by decide, by decide⟩
theorem endMeasure : Statement .endMeasure := ⟨rfl, by decide, by decide⟩
theorem settleWait : Statement .settleWait := ⟨rfl, by decide, by decide⟩
theorem endSettle : Statement .endSettle := ⟨rfl, by decide, by decide⟩
theorem txWait : Statement .txWait := ⟨rfl, by decide, by decide⟩
theorem txOk : Statement .txOk := ⟨rfl, by decide, by decide⟩
theorem txFail : Statement .txFail := ⟨rfl, by decide, by decide⟩
theorem boWait : Statement .boWait := ⟨rfl, by decide, by decide⟩
theorem boEnd : Statement .boEnd := ⟨rfl, by decide, by decide⟩
theorem illegal : Statement .illegal := ⟨rfl, by decide, by decide⟩

end Sys2Proof.Laws.RowExact
end

