-- ==== Sys2Proof/Laws/Step.lean ====
section
/-! SUPPORT. Laws/Step: the meanings as equations, and once and for all what a step can do. -/

namespace Sys2Proof.Machine

variable {sw tw : Nat} {s t : State sw tw}

/-- The host's dispatch is the one at the default widths. -/
theorem exec_eq_execAt (i : Instr) (s : State) : exec i s = execAt i s := rfl

/-- The host's step is the one at the default widths. -/
theorem step_eq_stepAt (s : State) : step s = stepAt s := rfl

/-- The host's machine is the one at the default widths. -/
theorem core_eq_coreAt : core = coreAt 16 32 := rfl

@[simp] theorem execAt_idle : execAt .idle s = .next s := rfl
@[simp] theorem execAt_sample : execAt .sample s = .next (s.setMr (minUpdate s.mr s.inp.samp)) := rfl
@[simp] theorem execAt_endMeasure : execAt .endMeasure s = .next ((s.setPhase Phase.settling).setPs s.inp.now) := rfl
@[simp] theorem execAt_settleWait : execAt .settleWait s = .next s := rfl
@[simp] theorem execAt_endSettle : execAt .endSettle s = .next (s.setPhase Phase.tx) := rfl
@[simp] theorem execAt_txWait : execAt .txWait s = .next s := rfl
@[simp] theorem execAt_txOk :
    execAt .txOk s = .next (((s.setMr (freshLanes sw)).setPhase Phase.meas).setPs s.inp.now) := rfl
@[simp] theorem execAt_txFail : execAt .txFail s = .next ((s.setBo true).setPs s.inp.now) := rfl
@[simp] theorem execAt_boWait : execAt .boWait s = .next s := rfl
@[simp] theorem execAt_boEnd : execAt .boEnd s = .next (s.setBo false) := rfl
@[simp] theorem execAt_illegal : execAt .illegal s = .fault (.illegalPhase s.phase s.bo s.ps s.mr) := rfl

/-- A reset edge. -/
theorem stepAt_of_rst (h : s.inp.rst = true)   : stepAt s = .next s.resetEdge.advance := by
  simp [stepAt, edgeWith, h]

/-- Any other edge runs the operation of its fields. -/
theorem stepAt_of_not_rst (h : s.inp.rst = false) :
    stepAt s =
      advanceAfter (execAt (operationOf s.inp.step s.phase s.bo s.lt s.inp.txDone s.inp.txOk) s) := by
  simp [stepAt, edgeWith, h, State.op_eq]

/-- Everything a step that answers a next state can have done: the architectural state after it, by the operation. -/
theorem stepAt_next_cases (h : stepAt s = .next t) :
    (s.inp.rst = true ∧ t.arch = ⟨Phase.meas, false, s.inp.now, freshLanes sw⟩) ∨
    (s.inp.rst = false ∧
      ((s.op = some .idle ∧ t.arch = s.arch) ∨
        (s.op = some .sample ∧ t.arch = { s.arch with mr := minUpdate s.mr s.inp.samp }) ∨
        (s.op = some .endMeasure ∧ t.arch = { s.arch with phase := Phase.settling, ps := s.inp.now }) ∨
        (s.op = some .settleWait ∧ t.arch = s.arch) ∨
        (s.op = some .endSettle ∧ t.arch = { s.arch with phase := Phase.tx }) ∨
        (s.op = some .txWait ∧ t.arch = s.arch) ∨
        (s.op = some .txOk ∧ t.arch = { s.arch with phase := Phase.meas, ps := s.inp.now, mr := freshLanes sw }) ∨
        (s.op = some .txFail ∧ t.arch = { s.arch with bo := true, ps := s.inp.now }) ∨
        (s.op = some .boWait ∧ t.arch = s.arch) ∨
        (s.op = some .boEnd ∧ t.arch = { s.arch with bo := false }))) := by
  cases hr : s.inp.rst with
  | true =>
    rw [stepAt_of_rst hr] at h
    cases h
    exact .inl ⟨rfl, rfl⟩
  | false =>
    refine .inr ⟨rfl, ?_⟩
    rw [stepAt_of_not_rst hr] at h
    rw [State.op_eq]
    generalize operationOf s.inp.step s.phase s.bo s.lt s.inp.txDone s.inp.txOk = i at h
    cases i <;> simp [advanceAfter] at h ⊢ <;> subst h <;> rfl

/-- After a step the next edge's inputs stand on the ports. -/
theorem stepAt_next_ports (h : stepAt s = .next t) :
    t.inp = nextInputs s.script (s.edge + 1) ∧ t.script = s.script.tail ∧ t.edge = s.edge + 1 := by
  cases hr : s.inp.rst with
  | true =>
    rw [stepAt_of_rst hr] at h
    cases h
    exact ⟨rfl, rfl, rfl⟩
  | false =>
    rw [stepAt_of_not_rst hr] at h
    generalize operationOf s.inp.step s.phase s.bo s.lt s.inp.txDone s.inp.txOk = i at h
    cases i <;> simp [advanceAfter] at h <;> subst h <;> exact ⟨rfl, rfl, rfl⟩

/-- A run of the machine, one step at a time. -/
theorem runSteps_succ (n : Nat) (s : State sw tw) :
    runSteps (n + 1) s =
      match stepAt s with
      | .next t => runSteps n t
      | .fault r => .fault r
      | .refused r => .refused r := by
  show (coreAt sw tw).run (n + 1) s = _
  cases h : stepAt s <;> simp only [Host.Core.run, show (coreAt sw tw).step s = stepAt s from rfl, h] <;> rfl

@[simp] theorem runSteps_zero (s : State sw tw) : runSteps 0 s = .next s := rfl

end Sys2Proof.Machine
end

