-- ==== Sys2Proof/Tests/Slice0.lean ====
section
/-! SUPPORT. Tests: the smoke tests of the well-formedness checks, the spec's own vectors (95_test_vectors), and words
written out bit by bit from the opcode map (30_encoding R36). -/

namespace Sys2Proof.Tests

open Sys2Proof.Machine

/-! Well-formedness: a term that each check refuses. -/

theorem test_params_default : paramsOk Config.sampleW Config.timerW = true := by decide

theorem test_params_refuses_narrow_sample : paramsOk 1 32 = false := by decide

theorem test_params_refuses_narrow_timer : paramsOk 16 16 = false := by decide

theorem test_decode_word_refuses_eight_bits : isDecodeWord 0x80 = false := by decide

theorem test_every_operation_well_formed : opcodeMap.all Instr.wellFormed = true := by decide

/-! Decoding: words written out from the patterns `s pp b l d k` of R36. -/

theorem test_decode_idle : decode 0b0_11_1_1_1_1#7 = some .idle := by decide

theorem test_decode_sample : decode 0b1_00_0_1_0_0#7 = some .sample := by decide

theorem test_decode_end_measure : decode 0b1_00_1_0_1_1#7 = some .endMeasure := by decide

theorem test_decode_settle_wait : decode 0b1_01_0_1_1_0#7 = some .settleWait := by decide

theorem test_decode_end_settle : decode 0b1_01_0_0_1_1#7 = some .endSettle := by decide

theorem test_decode_tx_wait : decode 0b1_10_0_1_0_1#7 = some .txWait := by decide

theorem test_decode_tx_ok : decode 0b1_10_0_0_1_1#7 = some .txOk := by decide

theorem test_decode_tx_fail : decode 0b1_10_0_1_1_0#7 = some .txFail := by decide

theorem test_decode_bo_wait : decode 0b1_10_1_1_1_1#7 = some .boWait := by decide

theorem test_decode_bo_end : decode 0b1_10_1_0_1_1#7 = some .boEnd := by decide

theorem test_decode_illegal : decode 0b1_11_0_1_0_0#7 = some .illegal := by decide

theorem test_decode_refuses_eight_bits : decodeTableWord 8 0xC4 = none := by decide

/-- The grid of L2-4, row by row. -/
def grid : List Instr :=
  List.replicate 64 .idle ++
    List.replicate 4 .endMeasure ++ List.replicate 4 .sample ++
    List.replicate 4 .endMeasure ++ List.replicate 4 .sample ++
    List.replicate 4 .endSettle ++ List.replicate 4 .settleWait ++
    List.replicate 4 .endSettle ++ List.replicate 4 .settleWait ++
    [.txWait, .txWait, .txFail, .txOk, .txWait, .txWait, .txFail, .txOk] ++
    List.replicate 4 .boEnd ++ List.replicate 4 .boWait ++
    List.replicate 16 .illegal

theorem test_decode_grid : (List.range 128).map (decodeTableWord 8) = grid.map some := by decide

/-- The example of R40. -/
theorem test_disassemble : disassemble 0x44#7 = some "SAMPLE 1000100" := by decide

/-! The operations, from the vectors of L2-5. `M` is the register of §8.5, `S` is all sentinel. -/

/-- Eight samples from integers. -/
def samples (a b c d e f g h : Int) : Lanes Sample :=
  ⟨.ofInt _ a, .ofInt _ b, .ofInt _ c, .ofInt _ d, .ofInt _ e, .ofInt _ f, .ofInt _ g, .ofInt _ h⟩

/-- `M` of L2-5. -/
def regM : Lanes Sample :=
  samples 100 (-50) 0 32767 200 300 400 500

/-- `S` of L2-5. -/
def regS : Lanes Sample :=
  samples 32767 32767 32767 32767 32767 32767 32767 32767

/-- A state with the given registers facing the edge a script line lays down. -/
def facing (phase : Phase) (bo : Bool) (ps : Nat) (mr : Lanes Sample) (l : ScriptLine) : State :=
  ⟨phase, bo, BitVec.ofNat _ ps, mr, l.inputs, [], 1⟩

/-- A TICK line. -/
def tick (now : Nat) (samp : Option (Lanes Sample)) (tx : TxField) : ScriptLine :=
  .tick (BitVec.ofNat _ now) samp tx

/-- Whether an outcome is a next state with these registers. -/
def arrivesAt (o : Host.Outcome State Fault Refusal) (phase : Phase) (bo : Bool) (ps : Nat) (mr : Lanes Sample) : Bool :=
  match o with
  | .next t => t.arch == ⟨phase, bo, BitVec.ofNat _ ps, mr⟩
  | .fault _ => false
  | .refused _ => false

/-- V-OP-1 -/
theorem test_idle :
    arrivesAt (step (facing Phase.settling false 51000 regM .nostep)) Phase.settling false 51000 regM = true := by decide

/-- R70: no fault in phase 11 either. -/
theorem test_idle_in_illegal_phase :
    arrivesAt (step (facing Phase.illegal true 7 regM .nostep)) Phase.illegal true 7 regM = true := by decide

/-- V-OP-2 -/
theorem test_sample :
    arrivesAt (step (facing Phase.meas false 1000 regS (tick 30000 (some regM) .busy))) Phase.meas false 1000 regM = true := by
  decide

/-- V-SMP-2 to V-SMP-8, one per lane (lane 7: V-SMP-1). -/
theorem test_sample_lanes :
    minUpdate (samples (-50) (-50) 100 (-32768) 32767 0 1 32767) (samples 20 (-50) (-32768) 32767 32767 (-1) 0 (-50)) =
      samples (-50) (-50) (-32768) (-32768) 32767 (-1) 0 (-50) := by decide

/-- V-OP-3 -/
theorem test_end_measure :
    arrivesAt (step (facing Phase.meas false 1000 regM (tick 51000 (some (samples (-9) (-9) (-9) (-9) (-9) (-9) (-9) (-9))) .busy)))
      Phase.settling false 51000 regM = true := by decide

/-- V-OP-4 -/
theorem test_settle_wait :
    arrivesAt (step (facing Phase.settling false 51000 regM (tick 60999 (some (Lanes.fill (.ofInt _ (-9)))) .busy)))
      Phase.settling false 51000 regM = true := by decide

/-- V-OP-5 -/
theorem test_end_settle :
    arrivesAt (step (facing Phase.settling false 51000 regM (tick 61000 none .ok))) Phase.tx false 51000 regM = true := by
  decide

/-- V-OP-6 -/
theorem test_tx_wait :
    arrivesAt (step (facing Phase.tx false 51000 regM (tick 200000 none .busy))) Phase.tx false 51000 regM = true := by
  decide

/-- V-OP-7 -/
theorem test_tx_ok :
    arrivesAt (step (facing Phase.tx false 51000 regM (tick 61500 none .ok))) Phase.meas false 61500 regS = true := by
  decide

/-- V-OP-8 -/
theorem test_tx_fail :
    arrivesAt (step (facing Phase.tx false 51000 regM (tick 62000 none .fail))) Phase.tx true 62000 regM = true := by
  decide

/-- V-OP-9 -/
theorem test_bo_wait :
    arrivesAt (step (facing Phase.tx true 62000 regM (tick 62999 none .ok))) Phase.tx true 62000 regM = true := by decide

/-- V-OP-10 -/
theorem test_bo_end :
    arrivesAt (step (facing Phase.tx true 62000 regM (tick 63000 none .ok))) Phase.tx false 62000 regM = true := by decide

/-- V-OP-11 -/
theorem test_illegal :
    (match step (facing Phase.illegal false 0 regS (tick 5 none .busy)) with
      | .fault r => r == .illegalPhase Phase.illegal false 0#_ regS && faultCode r == 1
      | .next _ => false
      | .refused _ => false) = true := by decide

/-- V-OP-12 -/
theorem test_reset :
    arrivesAt (step (facing Phase.tx true 62000 regM (.reset (BitVec.ofNat _ 62100)))) Phase.meas false 62100 regS = true := by
  decide

/-! The comparator, from L2-3. -/

/-- V-CMP-2, V-CMP-3, V-CMP-6 -/
theorem test_compare_measuring :
    ((facing Phase.meas false 1000 regS (tick 0xC737 none .busy)).lt,
      (facing Phase.meas false 1000 regS (tick 0xC738 none .busy)).lt,
      (facing Phase.meas false 0x1388 regS (tick 0x1387 none .busy)).lt) = (true, false, false) := by decide

/-- V-CMP-4 and V-CMP-5 (MEASURING), V-CMP-11 and V-CMP-12 (backoff): across the wrap of `now`. -/
theorem test_compare_wrap :
    ((facing Phase.meas false 0xFFFFFFF0 regS (tick 0xC33F none .busy)).lt,
      (facing Phase.meas false 0xFFFFFFF0 regS (tick 0xC340 none .busy)).lt,
      (facing Phase.tx true 0xFFFFFE00 regS (tick 0x1E7 none .busy)).lt,
      (facing Phase.tx true 0xFFFFFE00 regS (tick 0x1E8 none .busy)).lt) = (true, false, true, false) := by decide

/-- V-CMP-7 and V-CMP-8 -/
theorem test_compare_settling :
    ((facing Phase.settling false 0xC738 regS (tick 0xEE47 none .busy)).lt,
      (facing Phase.settling false 0xC738 regS (tick 0xEE48 none .busy)).lt) = (true, false) := by decide

/-! The multiplier and the payload, from L1-1 and L2-1. -/

/-- L1-1 -/
theorem test_payload_example :
    (facing Phase.tx false 0 regM .nostep).outputs.pay =
      ⟨0x0012C#17, 0x00096#17, 0#17, 0#17, 0x00258#17, 0x00384#17, 0x004B0#17, 0x005DC#17⟩ := by decide

/-- V-MUL-1, 3, 8, 11, 12, 13, 14 and V-PAY-3 -/
theorem test_multiplier :
    [0x0000#16, 0xFFFF#16, 0xFFF0#16, 0xF448#16, 0x7FFE#16, 0x8001#16, 0x8000#16, 0x7FFF#16].map mul3over16 =
      [0x00000#17, 0x00003#17, 0x00030#17, 0x02328#17, 0x17FFA#17, 0x17FFD#17, 0x18000#17, 0x17FFD#17] := by decide

/-- V-PAY-3, V-MUL-13, V-MUL-14 -/
theorem test_pay : [0x7FFF#16, 0x8001#16, 0x8000#16].map pay = [0#17, 0x17FFD#17, 0x18000#17] := by decide

/-! Tick scripts. -/

/-- Line 3 of P1, as written. -/
theorem test_read_tick :
    readLine "TICK now=30000 samp=(100,-50,0,32767,200,300,400,500)" = some [tick 30000 (some regM) .busy] := by decide

/-- Lines of P3, P2 and the pseudo-instruction of R41. -/
theorem test_read_lines :
    readScript ["RESET now=0xFFFFC000", "TICK now=62000 tx=fail", "NOSTEP*2"] =
      some [.reset 0xFFFFC000#32, tick 62000 none .fail, .nostep, .nostep] := by decide

theorem test_read_refuses_wide_sample :
    (readLine "TICK now=1 samp=(32768,0,0,0,0,0,0,0)" : Option (List ScriptLine)) = none := by decide

/-- R41, R72: a SAMPLE tick without `samp` makes the script ill formed. -/
theorem test_load_refuses_missing_samp :
    (match State.reset.load [.reset 1000#32, tick 1000 none .busy] with
      | .refused r => r == .sampleWithoutSamp
      | .next _ => false
      | .fault _ => false) = true := by decide

/-- R41: elsewhere `samp` may be left out. -/
theorem test_load_accepts_settling :
    (match (facing Phase.settling false 51000 regM .nostep).load [tick 55000 none .busy] with
      | .next t => t.inp == (tick 55000 none .busy).inputs
      | .refused _ => false
      | .fault _ => false) = true := by decide

/-! Other values of the arguments `SAMPLE_W` and `TIMER_W` (R4), by hand from R4, R42 and R54. -/

/-- A tick of a machine of 12-bit samples and a 20-bit timer. -/
def narrowTick (ps now : Nat) (mr samp : Int) : State 12 20 :=
  ⟨Phase.meas, false, BitVec.ofNat _ ps, Lanes.fill (.ofInt _ mr),
    ⟨false, true, BitVec.ofNat _ now, Lanes.fill (.ofInt _ samp), false, false⟩, [], 1⟩

/-- The sentinel of 12 bits is 2047, and a reading below it replaces it. -/
theorem test_sample_at_other_widths :
    sentinel 12 = 2047#12 ∧
      (match stepAt (narrowTick 1000 2000 2047 (-2048)) with
        | .next t => t.arch == ⟨Phase.meas, false, 1000#20, Lanes.fill (.ofInt _ (-2048))⟩
        | .fault _ => false
        | .refused _ => false) = true := by decide

/-- Across the wrap at 2^20 = 1048576: 49999 and 50000 milliseconds after 1048575. -/
theorem test_compare_at_other_widths :
    ((narrowTick 1048575 49998 0 0).lt, (narrowTick 1048575 49999 0 0).lt) = (true, false) := by decide

/-! The host's two questions, on a word of the table: the operation decoded, and run as the first one after reset. -/

theorem test_fetch_tx_fail :
    (match step (State.reset.withFetchWord 8 0x62) with
      | .next t => t.phase == Phase.tx && t.bo
      | .fault _ => false
      | .refused _ => false) = true := by decide

theorem test_fetch_sample_runs :
    (match step (State.reset.withFetchWord 8 0x44) with
      | .next t => t.phase == Phase.meas && t.ps == 0#_
      | .fault _ => false
      | .refused _ => false) = true := by decide

end Sys2Proof.Tests
end

