-- ==== Sys2Proof/Tests/Witnesses.lean ====
section
/-! SUPPORT. Tests/Witnesses: for each obligation with hypotheses, a state and operands that meet all of them together,
at a boundary value of each clause's range. -/

namespace Sys2Proof.Tests

open Sys2Proof.Machine

/-- The levels of a TICK line. -/
def ticking (now : Nat) (samp : Lanes Sample) (tx : TxField) : Inputs :=
  (tick now (some samp) tx).inputs

/-- The levels of a RESET line. -/
def resetting (now : Nat) : Inputs :=
  (ScriptLine.reset (BitVec.ofNat _ now)).inputs

/-- A measuring state with a fresh register file whose window began at 1000. -/
def measuring (l : ScriptLine) : State := facing Phase.meas false 1000 regS l

/-- A settling state whose window began at 51000. -/
def settling (l : ScriptLine) : State := facing Phase.settling false 51000 regM l

/-- A state with an attempt in progress. -/
def attempting (l : ScriptLine) : State := facing Phase.tx false 51000 regM l

/-- A state in a backoff that began at 62000. -/
def backingOff (l : ScriptLine) : State := facing Phase.tx true 62000 regM l

/-- A state in the illegal phase. -/
def illegalState (l : ScriptLine) : State := facing Phase.illegal false 0 regS l

theorem test_witness_DecodeVectorHoldsItsFields : (attempting (.reset 1#32)).inp.rst = true := rfl

theorem test_witness_StepRunsTheOneMatchingRow :
    (measuring (tick 1000 (some regM) .busy)).inp.rst = false ∧
      decode (measuring (tick 1000 (some regM) .busy)).dv = some .sample ∧
      (State.reset.layDown [.nostep, .nostep]).script = [quietInputs 16 32] := ⟨rfl, by decide, rfl⟩

theorem test_witness_StepRunsTheOneMatchingRow_other_widths :
    (narrowTick 0 0 0 0).inp.rst = false ∧ decode (narrowTick 0 0 0 0).dv = some .sample := ⟨rfl, by decide⟩

theorem test_witness_OperationByItsConditionInWords : paramsOk 16 32 = true ∧ paramsOk 12 20 = true := by decide

theorem test_witness_PhaseSelectsItsThreshold : paramsOk 16 32 = true ∧ paramsOk 2 17 = true := by decide

theorem test_witness_DecodeInvertsEncode : 7 ≤ 7 ∧ 0x7B < 2 ^ 7 ∧ decodeTableWord 7 0x7B = some .illegal := by decide

theorem test_witness_DontCareFieldsAreIgnored : ∃ p : Phase, p = Phase.meas ∨ p = Phase.settling := ⟨_, .inr rfl⟩

theorem test_witness_ElapsedIsTheModularDifference :
    ∃ s : State 16 32, s.ps = BitVec.ofNat 32 4294967280 ∧ s.inp.now = BitVec.ofNat 32 4295017280 ∧
      4294967280 ≤ 4295017280 ∧ 4295017280 - 4294967280 < 2 ^ 32 :=
  ⟨facing Phase.meas false 4294967280 regS (tick 4295017280 none .busy), by decide⟩

theorem test_witness_ComparatorIsStrictAndUnsigned :
    (measuring (tick 51000 none .busy)).elapsed = threshold 32 (measuring (tick 51000 none .busy)).phase := by decide

theorem test_witness_ResetEdgeLoadsTheResetValues : (backingOff (.reset 62100#32)).inp.rst = true := rfl

theorem test_witness_HeldResetTakesItsLastEdge :
    (∀ x ∈ [resetting 5, resetting 6], x.rst = true) ∧ (resetting 7).rst = true := by decide

/-- Both sides of the boundary, and a run without a SAMPLE. -/
theorem test_witness_FirstTickAfterReset :
    (resetting 1000).rst = true ∧ (∀ x ∈ [quietInputs 16 32], x.rst = false ∧ x.step = false) ∧
      (ticking 50999 regM .busy).isTick = true ∧
      ((ticking 50999 regM .busy).now - (resetting 1000).now).toNat = 49999 ∧
      ((ticking 51000 regM .busy).now - (resetting 1000).now).toNat = 50000 ∧
      some .sample ∉ operations (backingOff .nostep) [resetting 1000, ticking 51000 regM .busy] ∧
      ∃ t, runEdges (backingOff .nostep) [resetting 1000, ticking 51000 regM .busy] = .next t := by
  refine ⟨by decide, by decide, by decide, by decide, by decide, by decide, ⟨_, rfl⟩⟩

/-- An edge of the host's. -/
def hostEdge (inputs : Inputs) (realTime : Nat) (converters network ended : Bool) : HostEdge :=
  ⟨inputs, realTime, converters, network, ended, Lanes.map some inputs.samp⟩

/-- A boot by R85: reset held until the converters and the network are ready, then a tick. -/
def booting : List HostEdge :=
  [hostEdge (resetting 9) 9 false false false, hostEdge (resetting 10) 10 true false false]

/-- The last reset edge of that boot. -/
def booted : HostEdge :=
  hostEdge (resetting 11) 11 true true false

/-- A boot that ends, with an idle edge before it and a tick after it, and one whose converters never get ready. -/
theorem test_witness_BootForgetsThePowerUpState :
    bootDuty (hostEdge (quietInputs 16 32) 8 false false false ::
      (booting ++ [booted, hostEdge (ticking 12 regM .busy) 12 true true false])) ∧
    ((booting ++ [booted]).any fun h => h.inputs.rst) = true ∧ bootOrder booting booted ∧
    (hostEdge (resetting 9) 9 false true false).inputs.rst = true ∧
    bootDuty [hostEdge (resetting 9) 9 false true false, hostEdge (quietInputs 16 32) 10 false true false] ∧
    ∀ x ∈ [hostEdge (resetting 9) 9 false true false, hostEdge (quietInputs 16 32) 10 false true false],
      x.booted = false := by decide

theorem test_witness_IdleChangesNothing :
    (illegalState .nostep).inp.rst = false ∧ (illegalState .nostep).inp.step = false := by decide

theorem test_witness_SampleFoldsEveryLane :
    (measuring (tick 50999 (some regM) .busy)).inp.isTick = true ∧
      (measuring (tick 50999 (some regM) .busy)).phase = Phase.meas ∧
      (measuring (tick 50999 (some regM) .busy)).waitedMs = 49999 := by decide

theorem test_witness_EndMeasureEntersSettling :
    (measuring (tick 51000 none .busy)).inp.isTick = true ∧ (measuring (tick 51000 none .busy)).phase = Phase.meas ∧
      (measuring (tick 51000 none .busy)).waitedMs = 50000 := by decide

theorem test_witness_SettleWaitChangesNothing :
    (settling (tick 60999 none .busy)).inp.isTick = true ∧ (settling (tick 60999 none .busy)).phase = Phase.settling ∧
      (settling (tick 60999 none .busy)).waitedMs = 9999 := by decide

theorem test_witness_EndSettleEntersTransmitting :
    (settling (tick 61000 none .ok)).inp.isTick = true ∧ (settling (tick 61000 none .ok)).phase = Phase.settling ∧
      (settling (tick 61000 none .ok)).waitedMs = 10000 := by decide

theorem test_witness_TxWaitChangesNothing :
    (attempting (tick 200000 none .busy)).inp.isTick = true ∧ (attempting (tick 200000 none .busy)).phase = Phase.tx ∧
      (attempting (tick 200000 none .busy)).bo = false ∧ (attempting (tick 200000 none .busy)).inp.txDone = false := by
  decide

theorem test_witness_TxOkStartsANewCycle :
    (attempting (tick 61500 none .ok)).inp.isTick = true ∧ (attempting (tick 61500 none .ok)).phase = Phase.tx ∧
      (attempting (tick 61500 none .ok)).bo = false ∧ (attempting (tick 61500 none .ok)).inp.txDone = true ∧
      (attempting (tick 61500 none .ok)).inp.txOk = true := by decide

theorem test_witness_TxFailStartsTheBackoff :
    (attempting (tick 62000 none .fail)).inp.isTick = true ∧ (attempting (tick 62000 none .fail)).phase = Phase.tx ∧
      (attempting (tick 62000 none .fail)).bo = false ∧ (attempting (tick 62000 none .fail)).inp.txDone = true ∧
      (attempting (tick 62000 none .fail)).inp.txOk = false := by decide

theorem test_witness_BoWaitChangesNothing :
    (backingOff (tick 62999 none .ok)).inp.isTick = true ∧ (backingOff (tick 62999 none .ok)).phase = Phase.tx ∧
      (backingOff (tick 62999 none .ok)).bo = true ∧ (backingOff (tick 62999 none .ok)).waitedMs = 999 := by decide

theorem test_witness_BoEndRearmsTheAttempt :
    (backingOff (tick 63000 none .ok)).inp.isTick = true ∧ (backingOff (tick 63000 none .ok)).phase = Phase.tx ∧
      (backingOff (tick 63000 none .ok)).bo = true ∧ (backingOff (tick 63000 none .ok)).waitedMs = 1000 := by decide

theorem test_witness_IllegalStopsWithItsFault :
    (illegalState (tick 5 none .busy)).inp.isTick = true ∧
      (illegalState (tick 5 none .busy)).phase = Phase.illegal := by decide

/-- Each of the three operations that change the phase. -/
theorem test_witness_PhaseChangePerformsNothingMore :
    (∃ t, step (measuring (tick 51000 none .busy)) = .next t ∧ t.phase ≠ (measuring (tick 51000 none .busy)).phase) ∧
    (∃ t, step (settling (tick 61000 none .busy)) = .next t ∧ t.phase ≠ (settling (tick 61000 none .busy)).phase) ∧
    (∃ t, step (attempting (tick 61500 none .ok)) = .next t ∧ t.phase ≠ (attempting (tick 61500 none .ok)).phase) ∧
    (measuring (tick 51000 none .busy)).inp.rst = false :=
  ⟨⟨_, rfl, by decide⟩, ⟨_, rfl, by decide⟩, ⟨_, rfl, by decide⟩, rfl⟩

/-- A step that writes the register file, one that writes the phase and the timestamp, and one that keeps them. -/
theorem test_witness_WritersOfTheRegisterFile :
    (∃ t, step (measuring (tick 1000 (some regM) .busy)) = .next t) ∧
      ∃ t, step (settling (tick 60999 none .busy)) = .next t := ⟨⟨_, rfl⟩, ⟨_, rfl⟩⟩

theorem test_witness_WritersOfThePhase :
    (∃ t, step (measuring (tick 51000 none .busy)) = .next t) ∧ ∃ t, step (backingOff (.reset 1#32)) = .next t :=
  ⟨⟨_, rfl⟩, ⟨_, rfl⟩⟩

theorem test_witness_WritersAndReaderOfTheTimestamp :
    (settling (tick 60999 none .busy)).lt = ((settling (tick 60999 none .busy)).setPs 51001#32).lt ∧
      ∃ t, step (settling (tick 60999 none .busy)) = .next t := ⟨by decide, ⟨_, rfl⟩⟩

theorem test_witness_WritersOfTheBackoffFlag :
    (∃ t, step (attempting (tick 62000 none .fail)) = .next t) ∧ ∃ t, step (backingOff (tick 63000 none .busy)) = .next t :=
  ⟨⟨_, rfl⟩, ⟨_, rfl⟩⟩

theorem test_witness_MultiplierIsExact : (0x8001#16).toInt = -(0x7FFF#16).toInt := by decide

theorem test_witness_ShiftAndAddCircuitConforms :
    (0x8000#16 = if (0x8000#16).msb then ~~~0x8000#16 + 1#16 else 0x8000#16) ∧
      (0x7FFF#16 = if (0x7FFF#16).msb then ~~~0x7FFF#16 + 1#16 else 0x7FFF#16) := by decide

theorem test_witness_PayloadSubstitutesTheSentinel :
    ∃ r r' : Sample, r = 0x7FFF#16 ∧ r' ≠ 0x7FFF#16 := ⟨0x7FFF#16, 0x7FFE#16, by decide⟩

theorem test_witness_OutputsAreFunctionsOfTheState :
    (settling .nostep).arch = (settling (tick 60999 none .ok)).arch := rfl

theorem test_witness_ChannelsAreBoundToDevicesAndFields : (3 : Channel).val ≤ 3 ∧ 4 ≤ (4 : Channel).val := by decide

/-- Both beginnings and both ends of an attempt. -/
theorem test_witness_AttemptBeginsAndEnds :
    ((settling (tick 61000 none .busy)).arch.txReq = false ∧
      ∃ t, step (settling (tick 61000 none .busy)) = .next t ∧ t.arch.txReq = true) ∧
    ((backingOff (tick 63000 none .busy)).arch.txReq = false ∧
      ∃ t, step (backingOff (tick 63000 none .busy)) = .next t ∧ t.arch.txReq = true) ∧
    ((attempting (tick 62000 none .fail)).arch.txReq = true ∧
      ∃ t, step (attempting (tick 62000 none .fail)) = .next t ∧ t.arch.txReq = false) ∧
    ((attempting (.reset 1#32)).arch.txReq = true ∧
      ∃ t, step (attempting (.reset 1#32)) = .next t ∧ t.arch.txReq = false) :=
  ⟨⟨rfl, _, rfl, rfl⟩, ⟨rfl, _, rfl, rfl⟩, ⟨rfl, _, rfl, rfl⟩, ⟨rfl, _, rfl, rfl⟩⟩

theorem test_witness_EveryStepKeepsLegality :
    (attempting (tick 62000 none .fail)).Legal ∧ ∃ t, step (attempting (tick 62000 none .fail)) = .next t ∧ t.bo = true :=
  ⟨by decide, _, rfl, rfl⟩

/-- A reset and one edge. -/
theorem test_witness_ReachableStatesAreLegal :
    ∃ t, edgeStep (illegalState (.reset 1000#32)).resetEdge (ticking 1000 regM .busy) = .next t ∧ Reachable t :=
  ⟨_, rfl, .edge (illegalState (.reset 1000#32)).resetEdge _ (ticking 1000 regM .busy) (.reset _) rfl⟩

theorem test_witness_LegalStatesRunForEver : (backingOff .nostep).Legal := by decide

theorem test_witness_FaultIsSticky :
    ∃ t r, runEdges (illegalState .nostep) [quietInputs 16 32] = .next t ∧ edgeStep t (ticking 5 regM .busy) = .fault r :=
  ⟨_, _, rfl, rfl⟩

theorem test_witness_TransitionGraph :
    (backingOff (tick 63000 none .busy)).Legal ∧ (backingOff (tick 63000 none .busy)).inp.rst = false ∧
      ∃ t, step (backingOff (tick 63000 none .busy)) = .next t := ⟨by decide, rfl, _, rfl⟩

/-- The other lanes and samples differ. -/
theorem test_witness_LanesAreIndependent :
    (samples 32767 1 1 1 1 1 1 1).get 0 = (measuring (tick 1000 (some regM) .busy)).mr.get 0 ∧
      (samples 100 2 2 2 2 2 2 2).get 0 = (measuring (tick 1000 (some regM) .busy)).inp.samp.get 0 ∧
      (∃ t, step (measuring (tick 1000 (some regM) .busy)) = .next t) ∧
      ∃ u, step (facing Phase.meas false 1000 (samples 32767 1 1 1 1 1 1 1)
        (tick 1000 (some (samples 100 2 2 2 2 2 2 2)) .busy)) = .next u :=
  ⟨by decide, by decide, ⟨_, rfl⟩, ⟨_, rfl⟩⟩

/-- Two levels that differ where the state samples nothing; a next state, and a fault. -/
theorem test_witness_UnsampledInputsHaveNoEffect :
    sampledAlike (settling .nostep) (ticking 60999 regM .ok) (ticking 60999 regS .busy) = true ∧
      (∃ t, edgeStep (settling .nostep) (ticking 60999 regM .ok) = .next t) ∧
      sampledAlike (illegalState .nostep) (ticking 5 regM .ok) (ticking 5 regS .busy) = true ∧
      ∃ r, edgeStep (illegalState .nostep) (ticking 5 regM .ok) = .fault r :=
  ⟨by decide, ⟨_, rfl⟩, by decide, ⟨_, rfl⟩⟩

theorem test_witness_LaneNeverRisesBetweenFills :
    (measuring (tick 1000 (some regM) .busy)).inp.rst = false ∧
      (measuring (tick 1000 (some regM) .busy)).op ≠ some .txOk ∧
      ∃ t, step (measuring (tick 1000 (some regM) .busy)) = .next t := ⟨rfl, by decide, _, rfl⟩

/-- A run with two readings, and one with none. -/
theorem test_witness_MinHoldLaw :
    (measuring .nostep).mr.get 1 = 0x7FFF#16 ∧
      (∀ e ∈ [ticking 1000 regM .busy, ticking 2000 regS .busy], e.rst = false) ∧
      some .txOk ∉ operations (measuring .nostep) [ticking 1000 regM .busy, ticking 2000 regS .busy] ∧
      readings 1 (measuring .nostep) [ticking 1000 regM .busy, ticking 2000 regS .busy] = [0xFFCE#16, 0x7FFF#16] ∧
      (∃ t, runEdges (measuring .nostep) [ticking 1000 regM .busy, ticking 2000 regS .busy] = .next t) ∧
      readings 1 (measuring .nostep) [quietInputs 16 32] = [] :=
  ⟨by decide, by decide, by decide, by decide, ⟨_, rfl⟩, by decide⟩

theorem test_witness_SentinelReadingsReportZero :
    (measuring .nostep).mr.get 3 = 0x7FFF#16 ∧
      (∀ r ∈ readings 3 (measuring .nostep) [ticking 1000 regM .busy], r = 0x7FFF#16) ∧
      ∃ t, runEdges (measuring .nostep) [ticking 1000 regM .busy] = .next t := by
  have h : readings 3 (measuring .nostep) [ticking 1000 regM .busy] = [0x7FFF#16] := by decide
  exact ⟨by decide, by simp [h], ⟨_, rfl⟩⟩

/-- What the END_MEASURE edge at 51000 leaves. -/
def afterEndMeasure : State := ⟨Phase.settling, false, 51000#32, regS, Inputs.draw 2, [], 2⟩

theorem test_witness_PayloadIsStableThroughTheCycle :
    (measuring .nostep).performs (ticking 51000 regM .busy) = some .endMeasure ∧
      edgeStep (measuring .nostep) (ticking 51000 regM .busy) = .next afterEndMeasure ∧
      (∀ x ∈ [ticking 61000 regM .busy, ticking 62000 regM .fail], x.rst = false) ∧
      some .txOk ∉ operations afterEndMeasure [ticking 61000 regM .busy, ticking 62000 regM .fail] ∧
      ∃ u, runEdges afterEndMeasure [ticking 61000 regM .busy, ticking 62000 regM .fail] = .next u :=
  ⟨by decide, rfl, by decide, by decide, _, rfl⟩

theorem test_witness_ZeroPayloadAfterSuccess :
    (attempting .nostep).performs (ticking 61500 regM .ok) = some .txOk ∧
      ∃ t, edgeStep (attempting .nostep) (ticking 61500 regM .ok) = .next t ∧
        some .sample ∉ operations t [ticking 111500 regM .busy] ∧ ∃ u, runEdges t [ticking 111500 regM .busy] = .next u :=
  ⟨by decide, _, rfl, by decide, _, rfl⟩

theorem test_witness_IdleRunChangesNothing :
    ∀ e ∈ [quietInputs 16 32, quietInputs 16 32], e.rst = false ∧ e.step = false := by decide

theorem test_witness_AttemptHasNoTimeout :
    (attempting .nostep).arch.txReq = true ∧
      ∀ e ∈ [ticking 200000 regM .busy, quietInputs 16 32], e.rst = false ∧ e.txDone = false := by decide

/-- The last millisecond of each window. -/
theorem test_witness_WaitingWindowsBlock :
    ((settling .nostep).phase = Phase.settling ∧
      ∀ e ∈ [ticking 60999 regM .ok], e.rst = false ∧ ((settling .nostep).facing e).waitedMs < 10000) ∧
    ((backingOff .nostep).phase = Phase.tx ∧ (backingOff .nostep).bo = true ∧
      ∀ e ∈ [ticking 62999 regM .ok], e.rst = false ∧ ((backingOff .nostep).facing e).waitedMs < 1000) := by decide

/-- After an END_SETTLE and after a BO_END. -/
theorem test_witness_StaleOutcomeIsTaken :
    (settling .nostep).Legal ∧ (settling .nostep).performs (ticking 61000 regM .ok) = some .endSettle ∧
      (∃ t, edgeStep (settling .nostep) (ticking 61000 regM .ok) = .next t) ∧
      (backingOff .nostep).Legal ∧ (backingOff .nostep).performs (ticking 63000 regM .fail) = some .boEnd ∧
      (∃ t, edgeStep (backingOff .nostep) (ticking 63000 regM .fail) = .next t) ∧
      (ticking 63001 regM .fail).isTick = true ∧ (ticking 63001 regM .fail).txDone = true :=
  ⟨by decide, by decide, ⟨_, rfl⟩, by decide, by decide, ⟨_, rfl⟩, by decide, by decide⟩

/-- A run of the host: a SAMPLE, the END_MEASURE at the first tick past the window. -/
def dutiful : List HostEdge :=
  [hostEdge (ticking 50700 regM .busy) 50700 true true false, hostEdge (ticking 51400 regM .busy) 51400 true true false]

/-- The run of a reset edge, an idle edge with any `now`, and the first tick. -/
def restarted : List HostEdge :=
  [hostEdge (resetting 50600) 50600 true true false, hostEdge (quietInputs 16 32) 50700 true true false,
    hostEdge (ticking 51300 regM .busy) 51300 true true false]

/-- The duties are met: L1-3's run with ticks every 700 ms, its last two ticks; a reset; an attempt that ends. -/
theorem test_hostDuty :
    (∀ v ∈ hostVisits (measuring .nostep) 1000 50000 dutiful, hostDuty v) ∧
      (∀ v ∈ hostVisits (backingOff .nostep) 50000 50500 restarted, hostDuty v ∧ tickSpacing 700 v) := by decide

/-- R79: a time base that steps back at a reset edge breaks its duty. -/
theorem test_timeDuty_refuses_stepping_back :
    ¬ ∀ v ∈ hostVisits (backingOff .nostep) 50000 50601 restarted, timeDuty v := by decide

/-- R79: a tick before the network is associated breaks the boot duty. -/
theorem test_bootDuty_refuses_early_tick :
    ¬ bootDuty (booting ++ [hostEdge (ticking 12 regM .busy) 12 true false false]) := by decide

theorem test_witness_WindowLawsHoldInRealTime :
    paramsOk 16 32 = true ∧ (measuring .nostep).Legal ∧ (measuring .nostep).ps = BitVec.ofNat 32 1000 ∧ 1000 ≤ 50000 ∧
      50000 - 1000 < (threshold 32 (measuring .nostep).phase).toNat ∧
      (∀ v ∈ hostVisits (measuring .nostep) 1000 50000 dutiful, timeDuty v ∧ tickSpacing 700 v) ∧
      (hostVisits (measuring .nostep) 1000 50000 dutiful).map HostVisit.op = [some .sample, some .endMeasure] :=
  ⟨by decide, by decide, by decide, by decide, by decide, by decide, by decide⟩

/-- A SAMPLE, and an attempt that ends. -/
theorem test_witness_DutifulHostGetsTrueExchanges :
    (∀ v ∈ hostVisits (measuring .nostep) 1000 50000 dutiful, frontEndDuty v ∧ clientDuty v) ∧
      (∀ v ∈ hostVisits (attempting .nostep) 51000 61000 [hostEdge (ticking 61500 regM .ok) 61500 true true true],
        frontEndDuty v ∧ clientDuty v) ∧
      (hostVisits (attempting .nostep) 51000 61000 [hostEdge (ticking 61500 regM .ok) 61500 true true true]).map
        HostVisit.op = [some .txOk] := by decide

/-- P4's first three lines. -/
def scriptP4 : List ScriptLine :=
  [tick 70500 none .busy, .reset 70600#32, tick 70700 (some (Lanes.fill 9#16)) .busy]

theorem test_witness_LoadedScriptRunsAsLaidDown :
    (∃ t, (backingOff .nostep).load scriptP4 = .next t) ∧
      ∃ u, runEdges (backingOff .nostep) (scriptP4.map ScriptLine.inputs) = .next u ∧
        u.mr = Lanes.fill 9#16 ∧ u.ps = 70600#32 :=
  ⟨⟨_, rfl⟩, _, rfl, by decide, by decide⟩

theorem test_witness_ScriptWithoutSampIsRefused :
    (∃ t, runEdges (backingOff .nostep) ([ScriptLine.reset 70600#32].map ScriptLine.inputs) = .next t ∧
      t.performs (tick 70700 none .busy).inputs = some .sample) ∧ (tick 70700 none .busy).givesSamp = false ∧
      ∀ l ∈ [ScriptLine.nostep, tick 5 (some regM) .busy], l.inputs.step = true → l.givesSamp = true :=
  ⟨⟨_, rfl, by decide⟩, by decide, by decide⟩

end Sys2Proof.Tests
end

section
/-! PROOF. Runs that keep the registers: edges that each leave the architectural state make up a run that leaves it, and
idle edges are such edges (R7, R70, R73). -/

namespace Sys2Proof.Machine

variable {sw tw : Nat}

@[simp] theorem runEdges_nil (s : State sw tw) : runEdges s [] = .next s := rfl

theorem runEdges_cons_of_next {s t : State sw tw} {e : Inputs sw tw} (h : edgeStep s e = .next t)
    (es : List (Inputs sw tw)) : runEdges s (e :: es) = runEdges t es := by
  simp only [runEdges, h]

/-- A run keeps the registers when each of its edges does so from every state with these registers. -/
theorem runEdges_keeps_arch {s : State sw tw} {es : List (Inputs sw tw)}
    (h : ∀ e ∈ es, ∀ u : State sw tw, u.arch = s.arch → ∃ t, edgeStep u e = .next t ∧ t.arch = s.arch) :
    ∃ t, runEdges s es = .next t ∧ t.arch = s.arch := by
  induction es generalizing s with
  | nil => exact ⟨s, runEdges_nil s, rfl⟩
  | cons e es ih =>
    obtain ⟨t, hstep, harch⟩ := h e List.mem_cons_self s rfl
    rw [runEdges_cons_of_next hstep, ← harch]
    exact ih fun e' he' => harch ▸ h e' (List.mem_cons_of_mem e he')

/-- Without `step` the decoder answers IDLE, whatever stands in the other fields (R38). -/
@[simp] theorem operationOf_no_step (p : Phase) (b l d k : Bool) : operationOf false p b l d k = .idle := rfl

/-- An edge with neither `rst` nor `step` only lets the next edge come, in every phase (R7, R70). -/
theorem edgeStep_idle (s : State sw tw) {e : Inputs sw tw} (hrst : e.rst = false) (hstep : e.step = false) :
    edgeStep s e = .next (s.facing e).advance := by
  rw [edgeStep, stepAt_of_not_rst hrst, State.inp_facing, hstep, operationOf_no_step, execAt_idle]
  rfl

/-- Settles O53: every edge of the run is idle, so every edge keeps the registers. -/
theorem idleRunChangesNothing : Obligations.IdleRunChangesNothing := by
  intro s es hidle
  refine runEdges_keeps_arch fun e he u hu => ?_
  obtain ⟨hrst, hstep⟩ := hidle e he
  exact ⟨(u.facing e).advance, edgeStep_idle u hrst hstep, by simp [hu]⟩

end Sys2Proof.Machine
end

section
/-! PROOF. Register writers: the architectural state after an edge as one expression per register, and exactly which
edges have a next state (10_state R12 to R16; 42_scheduler R68). -/

namespace Sys2Proof.Machine

variable {sw tw : Nat}

/-- The registers after the coming edge, each by its writers (R12, R14, R15, R16). -/
def State.archAfter (s : State sw tw) : Arch sw tw where
  phase :=
    if s.inp.rst ∨ s.op = some .txOk then Phase.meas
    else if s.op = some .endMeasure then Phase.settling
    else if s.op = some .endSettle then Phase.tx
    else s.phase
  bo := if s.inp.rst ∨ s.op = some .boEnd then false else if s.op = some .txFail then true else s.bo
  ps := if s.inp.rst ∨ s.op = some .endMeasure ∨ s.op = some .txOk ∨ s.op = some .txFail then s.inp.now else s.ps
  mr :=
    if s.inp.rst ∨ s.op = some .txOk then freshLanes sw
    else if s.op = some .sample then minUpdate s.mr s.inp.samp
    else s.mr

/-- A step that answers a next state leaves every register as its writers say. -/
theorem arch_of_stepAt_next {s t : State sw tw} (h : stepAt s = .next t) : t.arch = s.archAfter := by
  obtain ⟨hrst, harch⟩ | ⟨hrst, hop⟩ := stepAt_next_cases h
  · simp [State.archAfter, hrst, harch]
  · rcases hop with ⟨hop, harch⟩ | ⟨hop, harch⟩ | ⟨hop, harch⟩ | ⟨hop, harch⟩ | ⟨hop, harch⟩ |
      ⟨hop, harch⟩ | ⟨hop, harch⟩ | ⟨hop, harch⟩ | ⟨hop, harch⟩ | ⟨hop, harch⟩
    all_goals rw [harch]; simp [State.archAfter, hrst, hop, State.arch]

/-- An edge faults where it performs ILLEGAL, with the registers it finds, and else has a next state (R35, R68, R72). -/
theorem stepAt_outcome_cases (s : State sw tw) :
    ((s.inp.rst = false ∧ s.op = some .illegal) ∧ stepAt s = .fault (.illegalPhase s.phase s.bo s.ps s.mr)) ∨
    ((s.inp.rst = true ∨ s.op ≠ some .illegal) ∧ ∃ t, stepAt s = .next t) := by
  cases hrst : s.inp.rst with
  | true => simp [stepAt_of_rst hrst]
  | false =>
    rw [stepAt_of_not_rst hrst, State.op_eq]
    generalize operationOf s.inp.step s.phase s.bo s.lt s.inp.txDone s.inp.txOk = i
    cases i <;> simp [advanceAfter]

theorem stepAt_next_iff {s : State sw tw} :
    (∃ t, stepAt s = .next t) ↔ s.inp.rst = true ∨ s.op ≠ some .illegal := by
  obtain ⟨⟨hrst, hop⟩, hfault⟩ | ⟨hlegal, hnext⟩ := stepAt_outcome_cases s
  · simp [hrst, hop, hfault]
  · exact iff_of_true hnext hlegal

theorem stepAt_fault_iff {s : State sw tw} {r : Fault sw tw} :
    stepAt s = .fault r ↔
      (s.inp.rst = false ∧ s.op = some .illegal) ∧ .illegalPhase s.phase s.bo s.ps s.mr = r := by
  obtain ⟨⟨hrst, hop⟩, hfault⟩ | ⟨hrst | hop, t, hnext⟩ := stepAt_outcome_cases s
  · simp [hrst, hop, hfault]
  · simp [hrst, hnext]
  · simp [hop, hnext]

/-- A next state carries over to a state whose coming edge agrees on reset and, without it, on the operation. -/
theorem stepAt_next_of_same_op {s s' t : State sw tw} (hrst : s'.inp.rst = s.inp.rst)
    (hop : s.inp.rst = false → s'.op = s.op) (h : stepAt s = .next t) : ∃ t', stepAt s' = .next t' := by
  cases hr : s.inp.rst with
  | true => exact ⟨s'.resetEdge.advance, stepAt_of_rst (hrst.trans hr)⟩
  | false =>
    have hnext := stepAt_next_iff.1 ⟨t, h⟩
    rwa [stepAt_next_iff, hop hr, hrst]

/-- A payload port shows PAY of its lane (R51). -/
@[simp] theorem State.get_pay_outputs (s : State sw tw) (c : Channel) : s.outputs.pay.get c = pay (s.mr.get c) :=
  Lanes.get_map pay s.mr c

/-- Settles O27: the register file of `archAfter`, read lane by lane. -/
theorem writersOfTheRegisterFile : Obligations.WritersOfTheRegisterFile := by
  refine ⟨sentinel_default, fun sw tw s t h c => ⟨?_, t.get_pay_outputs c⟩⟩
  have hmr : t.mr = s.archAfter.mr := congrArg Arch.mr (arch_of_stepAt_next h)
  rw [hmr]
  simp only [State.archAfter]
  split_ifs
  · exact get_freshLanes c
  · exact get_minUpdate s.mr s.inp.samp c
  · rfl

/-- Settles O28: the phase of `archAfter`. -/
theorem writersOfThePhase : Obligations.WritersOfThePhase :=
  fun _ _ _ _ h => congrArg Arch.phase (arch_of_stepAt_next h)

/-- Settles O30: the backoff flag of `archAfter`. -/
theorem writersOfTheBackoffFlag : Obligations.WritersOfTheBackoffFlag :=
  fun _ _ _ _ h => congrArg Arch.bo (arch_of_stepAt_next h)

/-- The timestamp acts on the operation through the comparator alone (R15, R54). -/
theorem State.op_setPs {s : State sw tw} {p : Time tw} (hlt : s.lt = (s.setPs p).lt) : (s.setPs p).op = s.op := by
  rw [State.op_eq, State.op_eq, ← hlt]
  rfl

/-- The other registers after an edge do not depend on `ps` beyond the comparator. -/
theorem State.archAfter_setPs {s : State sw tw} {p : Time tw} (hlt : s.lt = (s.setPs p).lt) :
    (s.setPs p).archAfter.phase = s.archAfter.phase ∧ (s.setPs p).archAfter.bo = s.archAfter.bo ∧
      (s.setPs p).archAfter.mr = s.archAfter.mr := by
  simp [State.archAfter, State.op_setPs hlt]

/-- Settles O29: the timestamp of `archAfter`, whose other registers see `ps` through the comparator only. -/
theorem writersAndReaderOfTheTimestamp : Obligations.WritersAndReaderOfTheTimestamp := by
  refine ⟨fun _ _ _ _ h => congrArg Arch.ps (arch_of_stepAt_next h), fun sw tw s t p hlt h => ?_⟩
  obtain ⟨u, hu⟩ := stepAt_next_of_same_op (s' := s.setPs p) (s := s) rfl (fun _ => State.op_setPs hlt) h
  refine ⟨u, hu, ?_⟩
  simpa [← arch_of_stepAt_next h, ← arch_of_stepAt_next hu] using State.archAfter_setPs hlt

end Sys2Proof.Machine
end

section
/-! PROOF. Legal states: reset makes one and every edge keeps one, so every reachable state is legal (10_state R17). -/

namespace Sys2Proof.Machine

variable {sw tw : Nat}

/-- Legality is a matter of the architectural state. -/
theorem State.legal_of_arch {t : State sw tw} {a : Arch sw tw} (harch : t.arch = a) (hphase : a.phase ≠ Phase.illegal)
    (hbo : a.bo = true → a.phase = Phase.tx) : t.Legal := by
  subst harch
  exact ⟨hphase, hbo⟩

/-- A reset edge leads to a legal state from any state. -/
theorem State.legal_resetEdge (s : State sw tw) : s.resetEdge.Legal :=
  State.legal_of_arch s.arch_resetEdge (by simp) (by simp)

/-- Every step keeps legality: an operation that leaves TRANSMITTING or enters another phase finds `bo` at 0, and TX_FAIL,
which sets `bo`, runs in TRANSMITTING only. -/
theorem legal_of_stepAt_next {s t : State sw tw} (hs : s.Legal) (h : stepAt s = .next t) : t.Legal := by
  obtain ⟨hphase, hbo⟩ := hs
  obtain ⟨-, -, hendMeasure, -, -, -, htxOk, htxFail, -, -, -⟩ := s.op_iff
  obtain ⟨-, harch⟩ | ⟨-, hop⟩ := stepAt_next_cases h
  · exact State.legal_of_arch harch (by simp) (by simp)
  rcases hop with ⟨-, harch⟩ | ⟨-, harch⟩ | ⟨hop, harch⟩ | ⟨-, harch⟩ | ⟨-, harch⟩ |
    ⟨-, harch⟩ | ⟨hop, harch⟩ | ⟨hop, harch⟩ | ⟨-, harch⟩ | ⟨-, harch⟩
  · exact State.legal_of_arch harch hphase hbo -- IDLE
  · exact State.legal_of_arch harch hphase hbo -- SAMPLE
  · obtain ⟨-, hmeas, -⟩ := hendMeasure.1 hop -- END_MEASURE
    exact State.legal_of_arch harch (by simp) fun hb => absurd (hmeas.symm.trans (hbo hb)) (by decide)
  · exact State.legal_of_arch harch hphase hbo -- SETTLE_WAIT
  · exact State.legal_of_arch harch (by simp) fun _ => rfl -- END_SETTLE
  · exact State.legal_of_arch harch hphase hbo -- TX_WAIT
  · obtain ⟨-, -, hclear, -⟩ := htxOk.1 hop -- TX_OK
    exact State.legal_of_arch harch (by simp) fun hb => absurd (hclear.symm.trans hb) (by decide)
  · obtain ⟨-, htx, -⟩ := htxFail.1 hop -- TX_FAIL
    exact State.legal_of_arch harch hphase fun _ => htx
  · exact State.legal_of_arch harch hphase hbo -- BO_WAIT
  · exact State.legal_of_arch harch hphase (by simp) -- BO_END

/-- Settles O40: the host's step is the one at the default widths, and every step keeps legality. -/
theorem everyStepKeepsLegality : Obligations.EveryStepKeepsLegality := by
  refine ⟨fun _ _ _ _ => legal_of_stepAt_next, fun s t hs h => ?_⟩
  rw [step_eq_stepAt] at h
  exact legal_of_stepAt_next hs h

/-- Settles O41, by induction on how the state was reached. -/
theorem reachableStatesAreLegal : Obligations.ReachableStatesAreLegal := by
  intro sw tw s hreach
  induction hreach with
  | reset s => exact s.legal_resetEdge
  | edge s t e _ hstep ih => exact legal_of_stepAt_next (s := s.facing e) ih hstep

/-- Settles O39, from the values `State.reset` gives `phase` and `bo`. -/
theorem initialStateIsLegal : Obligations.InitialStateIsLegal :=
  State.legal_of_arch (a := State.reset.arch) rfl (by decide) (by decide)

end Sys2Proof.Machine
end

section
/-! PROOF. Reset values and output ports (10_state R11, R21, R22; 60_exceptions R81). -/

namespace Sys2Proof.Machine

variable {sw tw : Nat}

/-- The request rises exactly in TRANSMITTING outside a backoff (R61). -/
theorem Arch.txReq_iff (a : Arch sw tw) : a.txReq = true ↔ a.phase = Phase.tx ∧ a.bo = false := by
  simp [Arch.txReq]

/-- Settles O36: the ports are computed from `arch`. -/
theorem outputsAreFunctionsOfTheState : Obligations.OutputsAreFunctionsOfTheState :=
  ⟨fun _ _ h => congrArg Arch.outputs h,
    fun s => ⟨rfl, rfl, rfl, fun c => ⟨rfl, s.get_pay_outputs c⟩, s.arch.txReq_iff⟩⟩

/-- What stands in the registers and on the ports when the architectural state is that of R22. -/
theorem reset_values_of_arch {s : State} {now : Time} (h : s.arch = ⟨Phase.meas, false, now, freshLanes _⟩) :
    s.phase = 0b00#2 ∧ s.bo = false ∧ s.ps = now ∧ (∀ c, s.mr.get c = 0x7FFF#16) ∧
      (∀ c, s.outputs.pay.get c = 0#17) ∧ s.outputs.txReq = false := by
  obtain ⟨hphase, hbo, hps, hmr⟩ := Arch.mk.inj h
  refine ⟨hphase, hbo, hps, fun c => ?_, fun c => ?_, ?_⟩
  · rw [hmr, get_freshLanes, sentinel_default]
  · rw [s.get_pay_outputs, hmr, get_freshLanes, pay_sentinel]
  · exact congrArg Arch.txReq h

/-- Settles O10: a reset edge loads R22's architectural state. -/
theorem resetEdgeLoadsTheResetValues : Obligations.ResetEdgeLoadsTheResetValues := by
  intro s hrst
  obtain ⟨hphase, hbo, hps, hmr, hpay, hreq⟩ := reset_values_of_arch (s := s.resetEdge.advance) s.arch_resetEdge
  refine ⟨s.resetEdge.advance, ?_, hphase, hbo, hps, hmr, hphase, hbo, hps, fun c => ⟨hmr c, hpay c⟩, hreq⟩
  rw [step_eq_stepAt, stepAt_of_rst hrst]

/-- Settles O11: `State.reset` has R22's architectural state, with the drawn `now` of the reset edge. -/
theorem initialStateHoldsTheResetValues : Obligations.InitialStateHoldsTheResetValues :=
  reset_values_of_arch (s := State.reset) rfl

/-- A channel's field reports that channel. -/
@[simp] theorem channelOf_fieldOf (c : Channel) : channelOf (fieldOf c) = c := by
  revert c; decide

/-- Settles O37: the devices and sub-channels by the eight channels, the reported payload by `channelOf_fieldOf`. -/
theorem channelsAreBoundToDevicesAndFields : Obligations.ChannelsAreBoundToDevicesAndFields := by
  refine ⟨by decide, rfl, fun s c => ?_⟩
  rw [State.payloadField, channelOf_fieldOf]
  rfl

end Sys2Proof.Machine
end

section
/-! PROOF. Sampling: input levels that agree on the sampled ports give the same operation and the same registers
(10_state R20). -/

namespace Sys2Proof.Machine

variable {sw tw : Nat}

/-- At an edge without reset the operation performed is the one the vector selects. -/
theorem State.performs_of_not_rst (s : State sw tw) {e : Inputs sw tw} (h : e.rst = false) :
    s.performs e = (s.facing e).op := by
  simp [State.performs, h]

/-- Levels that agree on the sampled ports, by the kind of edge: reset, idle, tick (R20). -/
theorem sampledAlike_cases {s : State sw tw} {e e' : Inputs sw tw} (h : sampledAlike s e e' = true) :
    (e.rst = true ∧ e'.rst = true ∧ e.now = e'.now) ∨
    (e.rst = false ∧ e.step = false ∧ e'.rst = false ∧ e'.step = false) ∨
    (e.rst = false ∧ e.step = true ∧ e'.rst = false ∧ e'.step = true ∧ e.now = e'.now ∧
      ((s.facing e).op = some .sample → e.samp = e'.samp) ∧
      (s.phase = Phase.tx ∧ s.bo = false → e.txDone = e'.txDone ∧ (e.txDone = true → e.txOk = e'.txOk))) := by
  cases hrst : e.rst with
  | true =>
    simp only [sampledAlike, hrst, if_true, Bool.and_eq_true, beq_iff_eq] at h
    obtain ⟨hrst', hnow⟩ := h
    exact .inl ⟨rfl, hrst'.symm, hnow⟩
  | false =>
    refine .inr ?_
    cases hstep : e.step with
    | false => exact .inl ⟨rfl, rfl, by simpa [sampledAlike, hrst, hstep] using h⟩
    | true =>
      refine .inr ⟨rfl, rfl, ?_⟩
      simpa [sampledAlike, hrst, hstep, s.performs_of_not_rst, Arch.txReq, imp_iff_not_or, not_and_or, and_assoc]
        using h

/-- Levels that agree on the sampled ports agree on reset. -/
theorem rst_eq_of_sampledAlike {s : State sw tw} {e e' : Inputs sw tw} (h : sampledAlike s e e' = true) :
    e'.rst = e.rst := by
  obtain ⟨hrst, hrst', -⟩ | ⟨hrst, -, hrst', -⟩ | ⟨hrst, -, hrst', -⟩ := sampledAlike_cases h <;> rw [hrst, hrst']

/-- What the client reports reaches the operation in an attempt only, and its success with an outcome only (R38). -/
theorem operationOf_congr_client {a b l d k d' k' : Bool} {p : Phase}
    (h : p = Phase.tx ∧ b = false → d = d' ∧ (d = true → k = k')) :
    operationOf a p b l d' k' = operationOf a p b l d k := by
  revert a b l d k d' k' p; decide

/-- Levels that agree on the sampled ports select the same operation. -/
theorem op_facing_of_sampledAlike {s : State sw tw} {e e' : Inputs sw tw} (h : sampledAlike s e e' = true)
    (hrst : e.rst = false) : (s.facing e').op = (s.facing e).op := by
  rw [State.op_eq, State.op_eq, State.inp_facing, State.inp_facing]
  obtain ⟨hreset, -⟩ | ⟨-, hstep, -, hstep'⟩ | ⟨-, hstep, -, hstep', hnow, -, hclient⟩ := sampledAlike_cases h
  · exact absurd (hrst.symm.trans hreset) (by decide)
  · rw [hstep, hstep', operationOf_no_step, operationOf_no_step]
  · have hlt : (s.facing e').lt = (s.facing e).lt := by simp [State.lt, State.elapsed, hnow]
    rw [hstep, hstep', hlt]
    exact congrArg some (operationOf_congr_client hclient)

/-- Levels that agree on the sampled ports leave the same registers. -/
theorem archAfter_facing_of_sampledAlike {s : State sw tw} {e e' : Inputs sw tw} (h : sampledAlike s e e' = true) :
    (s.facing e').archAfter = (s.facing e).archAfter := by
  have hop := op_facing_of_sampledAlike h
  obtain ⟨hrst, hrst', hnow⟩ | ⟨hrst, hstep, hrst', -⟩ | ⟨hrst, -, hrst', -, hnow, hsamp, -⟩ := sampledAlike_cases h
  · simp [State.archAfter, hrst, hrst', hnow]
  · have hidle : (s.facing e).op = some .idle := (s.facing e).op_iff.1.2 hstep
    simp [State.archAfter, hrst, hrst', hop hrst, hidle]
  · by_cases hsample : (s.facing e).op = some .sample
    · simp [State.archAfter, hrst, hrst', hop hrst, hsample, hsamp hsample]
    · simp [State.archAfter, hrst, hrst', hop hrst, hsample, hnow]

/-- Settles O47: the edges agree on reset, on the operation where there is one, and on what it writes. -/
theorem unsampledInputsHaveNoEffect : Obligations.UnsampledInputsHaveNoEffect := by
  intro sw tw s e e' h
  have hrst : e'.rst = e.rst := rst_eq_of_sampledAlike h
  constructor
  · intro t ht
    obtain ⟨t', ht'⟩ :=
      stepAt_next_of_same_op (s := s.facing e) (s' := s.facing e') hrst (op_facing_of_sampledAlike h) ht
    refine ⟨t', ht', ?_⟩
    rw [arch_of_stepAt_next ht, arch_of_stepAt_next ht', archAfter_facing_of_sampledAlike h]
  · intro r hr
    obtain ⟨⟨hnot, hop⟩, hrecord⟩ := stepAt_fault_iff.1 hr
    exact stepAt_fault_iff.2 ⟨⟨hrst.trans hnot, (op_facing_of_sampledAlike h hnot).trans hop⟩, hrecord⟩

end Sys2Proof.Machine
end


section
/-! PROOF. Encoding: the rows of the opcode map exclude each other, so the decoder answers an operation exactly where its
row matches, and the words of an operation are its encodings (30_encoding R33 to R39). -/

namespace Sys2Proof

/-- Each operation is written well and has its row. -/
theorem rowExact (i : Instr) : Laws.RowExact.Statement i :=
  match i with
  | .idle => Laws.RowExact.idle
  | .sample => Laws.RowExact.sample
  | .endMeasure => Laws.RowExact.endMeasure
  | .settleWait => Laws.RowExact.settleWait
  | .endSettle => Laws.RowExact.endSettle
  | .txWait => Laws.RowExact.txWait
  | .txOk => Laws.RowExact.txOk
  | .txFail => Laws.RowExact.txFail
  | .boWait => Laws.RowExact.boWait
  | .boEnd => Laws.RowExact.boEnd
  | .illegal => Laws.RowExact.illegal

theorem mem_opcodeMap (i : Instr) : i ∈ opcodeMap :=
  (rowExact i).2.1

theorem rowMatches_encodeWith (i : Instr) (fill : DecodeVector) : rowMatches (encodeWith i fill) i = true :=
  (rowExact i).2.2 fill

theorem rowMatches_iff {dv : DecodeVector} {i : Instr} : rowMatches dv i = true ↔ dv &&& rowMask i = rowMatch i :=
  beq_iff_eq

/-- Two rows whose patterns agree on the bits both care for are one row. -/
theorem row_eq_of_patterns_agree {i j : Instr} (h : rowMatch i &&& rowMask j = rowMatch j &&& rowMask i) : i = j := by
  have key : ∀ i ∈ opcodeMap, ∀ j ∈ opcodeMap, rowMatch i &&& rowMask j = rowMatch j &&& rowMask i → i = j := by decide
  exact key i (mem_opcodeMap i) j (mem_opcodeMap j) h

/-- No vector matches two rows (R35). -/
theorem eq_of_rowMatches {dv : DecodeVector} {i j : Instr} (hi : rowMatches dv i = true) (hj : rowMatches dv j = true) :
    i = j := by
  rw [rowMatches_iff] at hi hj
  apply row_eq_of_patterns_agree
  calc rowMatch i &&& rowMask j = dv &&& rowMask i &&& rowMask j := by rw [hi]
    _ = dv &&& rowMask j &&& rowMask i := by ac_rfl
    _ = rowMatch j &&& rowMask i := by rw [hj]

/-- The decoder answers an operation exactly where its row matches (R35). -/
theorem decode_eq_some_iff {dv : DecodeVector} {i : Instr} : decode dv = some i ↔ rowMatches dv i = true := by
  refine ⟨List.find?_some, fun hi => ?_⟩
  obtain ⟨j, hj⟩ := Option.isSome_iff_exists.1 (List.find?_isSome.2 ⟨i, mem_opcodeMap i, hi⟩)
  rwa [eq_of_rowMatches hi (List.find?_some hj)]

/-- Some row matches: the one of the vector's fields (R35, R36). -/
theorem decode_isSome (dv : DecodeVector) : ∃ i, decode dv = some i :=
  ⟨_, by rw [← assembleDv_fields dv, decode_assembleDv]⟩

theorem decode_encodeWith (i : Instr) (fill : DecodeVector) : decode (encodeWith i fill) = some i :=
  decode_eq_some_iff.2 (rowMatches_encodeWith i fill)

/-- A vector that decodes to an operation is its encoding with the vector's own don't-care bits. -/
theorem encodeWith_of_decode {dv : DecodeVector} {i : Instr} (h : decode dv = some i) : encodeWith i dv = dv := by
  have hrow := rowMatches_iff.1 (decode_eq_some_iff.1 h)
  calc encodeWith i dv = dv &&& rowMask i ||| dv &&& ~~~rowMask i := by rw [encodeWith, hrow]
    _ = dv := by ext; simp [← Bool.and_or_distrib_left]

/-- A number below the numbering's size is a word of the table exactly as a seven-bit vector (R39). -/
theorem decodeTableWord_eq_some_iff {nbits w : Nat} {i : Instr} (hw : w < 2 ^ nbits) :
    decodeTableWord nbits w = some i ↔ w < 2 ^ 7 ∧ decode (BitVec.ofNat 7 w) = some i := by
  simp [decodeTableWord, isDecodeWord, Nat.mod_eq_of_lt hw]

/-- Settles O4: a word of the table is a vector, and a vector of an operation is its encoding. -/
theorem decodeInvertsEncode : Obligations.DecodeInvertsEncode := by
  intro i nbits hbits
  constructor
  · intro fill
    have hvector : (encodeWith i fill).toNat < 2 ^ 7 := (encodeWith i fill).isLt
    have hword : (encodeWith i fill).toNat < 2 ^ nbits := hvector.trans_le (Nat.pow_le_pow_right (by decide) hbits)
    rw [decodeTableWord_eq_some_iff hword, BitVec.ofNat_toNat, BitVec.setWidth_eq]
    exact ⟨hvector, decode_encodeWith i fill⟩
  · intro w hw h
    obtain ⟨hvector, hdecode⟩ := (decodeTableWord_eq_some_iff hw).1 h
    rw [encodeWith_of_decode hdecode, BitVec.toNat_ofNat, Nat.mod_eq_of_lt hvector]

/-- Settles O3, by the decoder on the eleven words. -/
theorem wordsOfTheOpcodeMapDecode : Obligations.WordsOfTheOpcodeMapDecode := by
  unfold Obligations.WordsOfTheOpcodeMapDecode
  decide

/-- Settles O5, from the operation that the fields name. -/
theorem dontCareFieldsAreIgnored : Obligations.DontCareFieldsAreIgnored := by
  simp only [Obligations.DontCareFieldsAreIgnored, decode_assembleDv]
  refine ⟨?_, fun l l' d k => rfl, fun l d d' k k' => rfl, fun p p' b b' l l' d d' k k' => rfl⟩
  rintro l b b' d d' k k' p (rfl | rfl)
  · rfl
  · rfl

/-- Each field of an assembled vector is what it was assembled from (R33). -/
theorem fields_assembleDv (s : Bool) (p : Phase) (b l d k : Bool) :
    dvStep (assembleDv s p b l d k) = s ∧ dvPhase (assembleDv s p b l d k) = p ∧ dvBo (assembleDv s p b l d k) = b ∧
      dvLt (assembleDv s p b l d k) = l ∧ dvTxDone (assembleDv s p b l d k) = d ∧
      dvTxOk (assembleDv s p b l d k) = k := by
  revert s p b l d k; decide

end Sys2Proof

namespace Sys2Proof.Machine

variable {sw tw : Nat}

/-- Settles O1: the vector is assembled from its sources, and a reset edge forms none. -/
theorem decodeVectorHoldsItsFields : Obligations.DecodeVectorHoldsItsFields := by
  refine fun s => ⟨fields_assembleDv _ _ _ _ _ _, fun hrst => ?_⟩
  rw [step_eq_stepAt, stepAt_of_rst hrst]

/-- An edge without reset runs the operation its vector decodes to (R35). -/
theorem stepAt_of_decode {s : State sw tw} {i : Instr} (hrst : s.inp.rst = false) (h : decode s.dv = some i) :
    stepAt s = advanceAfter (execAt i s) := by
  simp [stepAt, edgeWith, State.op, hrst, h]

/-- Settles O2: rows exclude each other, and `step` runs the decoded operation. -/
theorem stepRunsTheOneMatchingRow : Obligations.StepRunsTheOneMatchingRow := by
  refine ⟨fun dv => ?_, fun s i hrst h => ?_, fun t => ⟨rfl, rfl, rfl, rfl, fun e es h => ?_⟩,
    fun sw tw s i => stepAt_of_decode, exec_eq_execAt, step_eq_stepAt, core_eq_coreAt⟩
  · obtain ⟨i, hi⟩ := decode_isSome dv
    refine ⟨i, hi, fun j => ?_⟩
    rw [← decode_eq_some_iff, hi, Option.some_inj, eq_comm]
  · rw [step_eq_stepAt, exec_eq_execAt, stepAt_of_decode hrst h]
  · rw [State.inp_advance, h]
    rfl

/-- The comparator against a phase's window in milliseconds (R55, R56). -/
theorem State.lt_iff_of_window {s : State sw tw} {n : Nat} (hwindow : (threshold tw s.phase).toNat = n) :
    (s.lt = true ↔ s.waitedMs < n) ∧ (s.lt = false ↔ n ≤ s.waitedMs) := by
  simp [s.lt_eq, hwindow]

/-- Settles O6: the condition column, with each phase's window for the comparator. -/
theorem operationByItsConditionInWords : Obligations.OperationByItsConditionInWords := by
  intro sw tw s hparams
  have hthr := toNat_threshold hparams
  have hmeas (hp : s.phase = Phase.meas) := State.lt_iff_of_window (s := s) (n := 50000) (by simp [hthr, hp])
  have hsettling (hp : s.phase = Phase.settling) := State.lt_iff_of_window (s := s) (n := 10000) (by simp [hthr, hp])
  have htx (hp : s.phase = Phase.tx) := State.lt_iff_of_window (s := s) (n := 1000) (by simp [hthr, hp])
  obtain ⟨hidle, hsample, hendMeasure, hsettleWait, hendSettle, htxWait, htxOk, htxFail, hboWait, hboEnd, hillegal⟩ :=
    s.op_iff
  refine ⟨hidle, hsample.trans ?_, hendMeasure.trans ?_, hsettleWait.trans ?_, hendSettle.trans ?_, htxWait, htxOk,
    htxFail, hboWait.trans ?_, hboEnd.trans ?_, hillegal⟩
  · exact and_congr_right fun _ => and_congr_right fun hp => (hmeas hp).1
  · exact and_congr_right fun _ => and_congr_right fun hp => (hmeas hp).2
  · exact and_congr_right fun _ => and_congr_right fun hp => (hsettling hp).1
  · exact and_congr_right fun _ => and_congr_right fun hp => (hsettling hp).2
  · exact and_congr_right fun _ => and_congr_right fun hp => and_congr_right fun _ => (htx hp).1
  · exact and_congr_right fun _ => and_congr_right fun hp => and_congr_right fun _ => (htx hp).2

/-- No step is refused: a row matches every vector (R35). -/
theorem stepAt_ne_refused (s : State sw tw) (r : Refusal) : stepAt s ≠ .refused r := by
  obtain ⟨-, hfault⟩ | ⟨-, t, hnext⟩ := stepAt_outcome_cases s
  · simp [hfault]
  · simp [hnext]

/-- Settles O43: ILLEGAL alone faults, and it is selected by a tick in phase 11. -/
theorem faultsExactlyOnATickInTheIllegalPhase : Obligations.FaultsExactlyOnATickInTheIllegalPhase := by
  intro s
  obtain ⟨-, -, -, -, -, -, -, -, -, -, hillegal⟩ := s.op_iff
  rw [step_eq_stepAt]
  refine ⟨fun r => ?_, stepAt_ne_refused s⟩
  rw [stepAt_fault_iff, hillegal, eq_comm (b := r), and_assoc, and_assoc]

end Sys2Proof.Machine
end

section
/-! PROOF. Tick scripts: a loaded script runs as its lines laid on the ports one by one, and is refused exactly for a SAMPLE
tick without `samp` (30_encoding R41). -/

namespace Sys2Proof.Machine

variable {sw tw : Nat}

/-- The operation is a function of the registers and of the ports. -/
theorem State.op_congr {s t : State sw tw} (harch : t.arch = s.arch) (hinp : t.inp = s.inp) : t.op = s.op := by
  obtain ⟨hphase, hbo, hps, -⟩ := (t.arch_eq_iff s).1 harch
  simp [State.op_eq, State.lt, State.elapsed, hphase, hbo, hps, hinp]

/-- The registers after an edge are a function of the registers and of the ports (R23). -/
theorem State.archAfter_congr {s t : State sw tw} (harch : t.arch = s.arch) (hinp : t.inp = s.inp) :
    t.archAfter = s.archAfter := by
  obtain ⟨hphase, hbo, hps, hmr⟩ := (t.arch_eq_iff s).1 harch
  simp [State.archAfter, State.op_congr harch hinp, hphase, hbo, hps, hmr, hinp]

/-- The machine's own step does to the registers what the edge with the levels on its ports does. -/
theorem stepAt_next_of_edgeStep {s s' t : State sw tw} (harch : t.arch = s.arch) (h : edgeStep s t.inp = .next s') :
    ∃ t', stepAt t = .next t' ∧ t'.arch = s'.arch := by
  have hfacing : t.arch = (s.facing t.inp).arch := harch
  obtain ⟨t', ht'⟩ := stepAt_next_of_same_op (s := s.facing t.inp) (s' := t) rfl (fun _ => State.op_congr hfacing rfl) h
  refine ⟨t', ht', ?_⟩
  rw [arch_of_stepAt_next ht', arch_of_stepAt_next h, State.archAfter_congr hfacing rfl]

/-- The state's own fields hold these edges as the next ones to come. -/
def State.HasLaidDown (s : State sw tw) : List (Inputs sw tw) → Prop
  | [] => True
  | e :: es => s.inp = e ∧ s.script = es

theorem State.hasLaidDown_layDown (s : State sw tw) (ls : List (ScriptLine sw tw)) :
    (s.layDown ls).HasLaidDown (ls.map ScriptLine.inputs) :=
  match ls with
  | [] => trivial
  | _ :: _ => ⟨rfl, rfl⟩

@[simp] theorem State.arch_layDown (s : State sw tw) (ls : List (ScriptLine sw tw)) : (s.layDown ls).arch = s.arch :=
  match ls with
  | [] => rfl
  | _ :: _ => rfl

/-- A step leaves the edges after the first laid down. -/
theorem State.hasLaidDown_of_stepAt_next {s t : State sw tw} (h : stepAt s = .next t) : t.HasLaidDown s.script := by
  obtain ⟨hinp, hscript, -⟩ := stepAt_next_ports h
  cases hs : s.script with
  | nil => trivial
  | cons e es => exact ⟨by rw [hinp, hs]; rfl, by rw [hscript, hs]; rfl⟩

theorem runSteps_succ_of_next {s t : State sw tw} (h : stepAt s = .next t) (n : Nat) :
    runSteps (n + 1) s = runSteps n t := by
  simp only [runSteps_succ, h]

/-- A run that answers a next state has a first edge that does. -/
theorem edgeStep_next_of_runEdges_cons {s u : State sw tw} {e : Inputs sw tw} {es : List (Inputs sw tw)}
    (h : runEdges s (e :: es) = .next u) : ∃ t, edgeStep s e = .next t ∧ runEdges t es = .next u := by
  cases hstep : edgeStep s e with
  | next t => exact ⟨t, rfl, runEdges_cons_of_next hstep es ▸ h⟩
  | fault r => simp [runEdges, hstep] at h
  | refused r => simp [runEdges, hstep] at h

/-- The machine steps through the edges laid down as a run over them does. -/
theorem runSteps_of_hasLaidDown {s t u : State sw tw} {es : List (Inputs sw tw)} (harch : t.arch = s.arch)
    (hlaid : t.HasLaidDown es) (h : runEdges s es = .next u) :
    ∃ u', runSteps es.length t = .next u' ∧ u'.arch = u.arch := by
  induction es generalizing s t with
  | nil =>
    rw [runEdges_nil] at h
    cases h
    exact ⟨t, rfl, harch⟩
  | cons e es ih =>
    obtain ⟨rfl, rfl⟩ := hlaid
    obtain ⟨s', hs', hrest⟩ := edgeStep_next_of_runEdges_cons h
    obtain ⟨t', ht', harch'⟩ := stepAt_next_of_edgeStep harch hs'
    obtain ⟨u', hu', hu⟩ := ih harch' (State.hasLaidDown_of_stepAt_next ht') hrest
    exact ⟨u', (runSteps_succ_of_next ht' _).trans hu', hu⟩

/-- A script is loaded exactly if it is well formed, and then laid down. -/
theorem State.load_next_iff {s t : State sw tw} {ls : List (ScriptLine sw tw)} :
    s.load ls = .next t ↔ scriptWellFormed s ls = true ∧ s.layDown ls = t := by
  cases h : scriptWellFormed s ls <;> simp [State.load, h]

/-- Settles O59: the loaded state has the script's edges laid down. -/
theorem loadedScriptRunsAsLaidDown : Obligations.LoadedScriptRunsAsLaidDown := by
  intro s t u ls hload hrun
  obtain ⟨-, rfl⟩ := State.load_next_iff.1 hload
  simpa using runSteps_of_hasLaidDown (s.arch_layDown ls) (s.hasLaidDown_layDown ls) hrun

/-- A line lacks `samp` where its edge performs SAMPLE and it gives none. -/
theorem State.lacksSamp_iff {s : State sw tw} {l : ScriptLine sw tw} :
    s.lacksSamp l = true ↔ s.performs l.inputs = some .sample ∧ l.givesSamp = false := by
  have hfacing : s.facingLine l = s.facing l.inputs := rfl
  cases hrst : l.inputs.rst <;> simp [State.lacksSamp, State.performs, hfacing, hrst]

/-- A script is well formed if its first line does not lack `samp` and the rest is where the first edge leads. -/
theorem scriptWellFormed_cons_iff {s : State sw tw} {l : ScriptLine sw tw} {ls : List (ScriptLine sw tw)} :
    scriptWellFormed s (l :: ls) = true ↔
      s.lacksSamp l = false ∧ ∀ t, edgeStep s l.inputs = .next t → scriptWellFormed t ls = true := by
  have hstep : stepAt (s.facingLine l) = edgeStep s l.inputs := rfl
  rw [scriptWellFormed, hstep]
  cases edgeStep s l.inputs <;> simp

/-- A script that comes to a SAMPLE tick without `samp` is ill formed. -/
theorem not_scriptWellFormed_of_lacksSamp {s t : State sw tw} {ls rest : List (ScriptLine sw tw)} {l : ScriptLine sw tw}
    (hrun : runEdges s (ls.map ScriptLine.inputs) = .next t) (hlacks : t.lacksSamp l = true) :
    ¬ scriptWellFormed s (ls ++ l :: rest) = true := by
  induction ls generalizing s with
  | nil =>
    cases hrun
    simp [scriptWellFormed_cons_iff, hlacks]
  | cons x xs ih =>
    obtain ⟨s', hs', hrest⟩ := edgeStep_next_of_runEdges_cons hrun
    intro hwf
    obtain ⟨-, hwf'⟩ := scriptWellFormed_cons_iff.1 hwf
    exact ih hrest (hwf' s' hs')

/-- Only a tick performs SAMPLE. -/
theorem State.step_of_performs_sample {s : State sw tw} {e : Inputs sw tw} (h : s.performs e = some .sample) :
    e.step = true := by
  cases hrst : e.rst with
  | true => simp [State.performs, hrst] at h
  | false =>
    rw [s.performs_of_not_rst hrst] at h
    obtain ⟨-, hsample, -⟩ := (s.facing e).op_iff
    exact (hsample.1 h).1

/-- A script whose every tick gives `samp` is well formed, from every state. -/
theorem scriptWellFormed_of_ticks_give_samp {s : State sw tw} {ls : List (ScriptLine sw tw)}
    (h : ∀ l ∈ ls, l.inputs.step = true → l.givesSamp = true) : scriptWellFormed s ls = true := by
  induction ls generalizing s with
  | nil => rfl
  | cons l ls ih =>
    refine scriptWellFormed_cons_iff.2 ⟨?_, fun t _ => ih fun x hx => h x (List.mem_cons_of_mem l hx)⟩
    refine Bool.eq_false_iff.2 fun hlacks => ?_
    obtain ⟨hsample, hnone⟩ := State.lacksSamp_iff.1 hlacks
    have hgives : l.givesSamp = true := h l List.mem_cons_self (State.step_of_performs_sample hsample)
    exact absurd (hgives.symm.trans hnone) (by decide)

/-- Settles O60: the check fails at the line that lacks `samp`, and passes where every tick gives it. -/
theorem scriptWithoutSampIsRefused : Obligations.ScriptWithoutSampIsRefused := by
  constructor
  · intro s t ls rest l hrun hsample hnone
    exact if_neg (not_scriptWellFormed_of_lacksSamp hrun (State.lacksSamp_iff.2 ⟨hsample, hnone⟩))
  · intro s ls hticks
    exact ⟨s.layDown ls, State.load_next_iff.2 ⟨scriptWellFormed_of_ticks_give_samp hticks, rfl⟩⟩

end Sys2Proof.Machine
end

section
/-! PROOF. Min-hold: what an edge does to one lane of the register file, and from it a lane over a run (40_minhold R42 to
R46). -/

namespace Sys2Proof.Machine

variable {sw tw : Nat}

/-! ### Runs, edge by edge -/

theorem visits_cons_of_next {s t : State sw tw} {e : Inputs sw tw} (h : edgeStep s e = .next t)
    (es : List (Inputs sw tw)) : visits s (e :: es) = (s, e) :: visits t es := by
  simp only [visits, h]

theorem operations_cons_of_next {s t : State sw tw} {e : Inputs sw tw} (h : edgeStep s e = .next t)
    (es : List (Inputs sw tw)) : operations s (e :: es) = s.performs e :: operations t es := by
  simp only [operations, visits_cons_of_next h, List.map_cons]

/-- A run's readings are that of its first edge, if it is a SAMPLE, and those of the rest. -/
theorem readings_cons_of_next {s t : State sw tw} {e : Inputs sw tw} (h : edgeStep s e = .next t) (c : Channel)
    (es : List (Inputs sw tw)) :
    readings c s (e :: es) =
      if s.performs e = some .sample then e.samp.get c :: readings c t es else readings c t es := by
  by_cases hsample : s.performs e = some .sample <;> simp [readings, visits_cons_of_next h, hsample]

/-! ### One lane at one edge -/

/-- The host's step runs the operation the coming edge selects (R35). -/
theorem step_of_op {s : State} {i : Instr} (hrst : s.inp.rst = false) (h : s.op = some i) :
    step s = advanceAfter (exec i s) := by
  rw [step_eq_stepAt, exec_eq_execAt, stepAt_of_decode hrst h]

theorem Inputs.isTick_iff {e : Inputs sw tw} : e.isTick = true ↔ e.rst = false ∧ e.step = true := by
  simp [Inputs.isTick]

/-- Settles O16: the fold lane by lane, and the condition under which the vector selects SAMPLE. -/
theorem sampleFoldsEveryLane : Obligations.SampleFoldsEveryLane := by
  intro s
  constructor
  · refine ⟨s.setMr (minUpdate s.mr s.inp.samp), rfl, fun c => ?_, rfl, rfl, rfl, rfl, rfl, rfl⟩
    rw [State.mr_setMr, get_minUpdate, toInt_smin]
  · intro htick hmeas hwaited
    obtain ⟨hrst, hstep⟩ := Inputs.isTick_iff.1 htick
    obtain ⟨-, hsample, -⟩ := operationByItsConditionInWords 16 32 s (by decide)
    exact step_of_op hrst (hsample.2 ⟨hstep, hmeas, hwaited⟩)

/-- A lane after a step, by its writers (R12). -/
theorem get_mr_of_stepAt_next {s t : State sw tw} (h : stepAt s = .next t) (c : Channel) :
    t.mr.get c =
      if s.inp.rst ∨ s.op = some .txOk then sentinel sw
      else if s.op = some .sample then smin (s.mr.get c) (s.inp.samp.get c)
      else s.mr.get c := by
  obtain ⟨-, hwriters⟩ := writersOfTheRegisterFile
  exact (hwriters sw tw s t h c).1

/-- Settles O46: the operation reads no lane, and what it writes to lane `c` is made of lane `c` and its sample. -/
theorem lanesAreIndependent : Obligations.LanesAreIndependent := by
  intro sw tw s t u c m v hlane hsamp ht hu
  have hop : State.op { s with mr := m, inp := { s.inp with samp := v } } = s.op := rfl
  rw [get_mr_of_stepAt_next ht, get_mr_of_stepAt_next hu, hop, hlane, hsamp]

/-- A lane after an edge of a run, by the operation performed at it. -/
theorem get_mr_of_edgeStep_next {s t : State sw tw} {e : Inputs sw tw} (h : edgeStep s e = .next t) (c : Channel) :
    t.mr.get c =
      if e.rst ∨ s.performs e = some .txOk then sentinel sw
      else if s.performs e = some .sample then smin (s.mr.get c) (e.samp.get c)
      else s.mr.get c := by
  rw [get_mr_of_stepAt_next h]
  cases hrst : e.rst with
  | true => simp [hrst]
  | false => simp [hrst, s.performs_of_not_rst]

/-- An edge that fills nothing raises no lane (R44). -/
theorem toInt_get_mr_le_of_stepAt_next {s t : State sw tw} (hrst : s.inp.rst = false) (hop : s.op ≠ some .txOk)
    (h : stepAt s = .next t) (c : Channel) : (t.mr.get c).toInt ≤ (s.mr.get c).toInt := by
  rw [get_mr_of_stepAt_next h, if_neg (by simp [hrst, hop])]
  split_ifs
  · rw [toInt_smin]
    exact min_le_left _ _
  · exact le_rfl

/-- Settles O48, at the default widths. -/
theorem laneNeverRisesBetweenFills : Obligations.LaneNeverRisesBetweenFills := by
  intro s t c hrst hop h
  rw [step_eq_stepAt] at h
  exact toInt_get_mr_le_of_stepAt_next hrst hop h c

/-! ### One lane over a run -/

/-- Over a run that fills nothing a lane is folded with its readings, in order (R44). -/
theorem get_mr_of_runEdges_next {s t : State sw tw} {es : List (Inputs sw tw)} (hrst : ∀ e ∈ es, e.rst = false)
    (hfill : some .txOk ∉ operations s es) (h : runEdges s es = .next t) (c : Channel) :
    t.mr.get c = (readings c s es).foldl smin (s.mr.get c) := by
  induction es generalizing s with
  | nil =>
    cases h
    rfl
  | cons e es ih =>
    obtain ⟨s', hstep, hrest⟩ := edgeStep_next_of_runEdges_cons h
    rw [operations_cons_of_next hstep, List.mem_cons, not_or] at hfill
    obtain ⟨hnotOk, hfill'⟩ := hfill
    obtain ⟨hrst, hrst'⟩ := List.forall_mem_cons.1 hrst
    have hlane := get_mr_of_edgeStep_next hstep c
    rw [if_neg (by simp [hrst, Ne.symm hnotOk])] at hlane
    rw [ih hrst' hfill' hrest, hlane, readings_cons_of_next hstep]
    split_ifs
    · rfl
    · rfl

/-- A fold with the signed minimum is the minimum of the integers. -/
theorem toInt_foldl_smin {w : Nat} (a : BitVec w) (l : List (BitVec w)) :
    (l.foldl smin a).toInt = (l.map BitVec.toInt).foldl min a.toInt := by
  rw [List.foldl_map]
  exact (List.foldl_hom BitVec.toInt fun x y => (toInt_smin x y).symm).symm

/-- No word exceeds the sentinel (R12). -/
theorem toInt_le_toInt_sentinel {w : Nat} (h : 1 ≤ w) (r : BitVec w) : r.toInt ≤ (sentinel w).toInt := by
  rw [toInt_sentinel h]
  have := BitVec.toInt_lt (x := r)
  omega

/-- At no edge of a run that fills nothing does a lane stand below its value at the end. -/
theorem toInt_get_mr_le_of_mem_visits {s t : State sw tw} {es : List (Inputs sw tw)} (hrst : ∀ e ∈ es, e.rst = false)
    (hfill : some .txOk ∉ operations s es) (h : runEdges s es = .next t) (c : Channel) :
    (t.mr.get c).toInt ≤ (s.mr.get c).toInt ∧ ∀ v ∈ visits s es, (t.mr.get c).toInt ≤ (v.1.mr.get c).toInt := by
  induction es generalizing s with
  | nil =>
    cases h
    exact ⟨le_rfl, by simp [visits]⟩
  | cons e es ih =>
    obtain ⟨s', hstep, hrest⟩ := edgeStep_next_of_runEdges_cons h
    rw [operations_cons_of_next hstep, List.mem_cons, not_or] at hfill
    obtain ⟨hnotOk, hfill'⟩ := hfill
    obtain ⟨hrst, hrst'⟩ := List.forall_mem_cons.1 hrst
    obtain ⟨hs', hvisits⟩ := ih hrst' hfill' hrest
    have hop : (s.facing e).op ≠ some .txOk := s.performs_of_not_rst hrst ▸ Ne.symm hnotOk
    have hs : (t.mr.get c).toInt ≤ (s.mr.get c).toInt :=
      hs'.trans (toInt_get_mr_le_of_stepAt_next (s := s.facing e) hrst hop hstep c)
    rw [visits_cons_of_next hstep, List.forall_mem_cons]
    exact ⟨hs, hs, hvisits⟩

/-- Settles O49: the lane is the fold of the sentinel with its readings, and the sentinel is the largest word. -/
theorem minHoldLaw : Obligations.MinHoldLaw := by
  refine ⟨by decide, fun sw tw c s t es hsw hsent hrst hfill h => ?_⟩
  have hfold : t.mr.get c = (readings c s es).foldl smin (sentinel sw) :=
    hsent ▸ get_mr_of_runEdges_next hrst hfill h c
  obtain ⟨-, hvisits⟩ := toInt_get_mr_le_of_mem_visits hrst hfill h c
  refine ⟨?_, fun hnone => ?_, fun r rs hsome => ?_, hvisits⟩
  · rw [hfold, toInt_foldl_smin, toInt_sentinel hsw]
  · rw [hfold, hnone, List.foldl_nil]
  · rw [hfold, hsome, toInt_foldl_smin, List.map_cons, List.foldl_cons, min_eq_right (toInt_le_toInt_sentinel hsw r)]

@[simp] theorem smin_self {w : Nat} (a : BitVec w) : smin a a = a :=
  ite_self a

/-- A lane at the sentinel whose every reading is the sentinel stays there, through any fills. -/
theorem get_mr_eq_sentinel_of_runEdges_next {s t : State sw tw} {es : List (Inputs sw tw)} {c : Channel}
    (hlane : s.mr.get c = sentinel sw) (hread : ∀ r ∈ readings c s es, r = sentinel sw)
    (h : runEdges s es = .next t) : t.mr.get c = sentinel sw := by
  induction es generalizing s with
  | nil =>
    cases h
    exact hlane
  | cons e es ih =>
    obtain ⟨s', hstep, hrest⟩ := edgeStep_next_of_runEdges_cons h
    have hlane' := get_mr_of_edgeStep_next hstep c
    rw [readings_cons_of_next hstep] at hread
    by_cases hsample : s.performs e = some .sample
    · rw [if_pos hsample, List.forall_mem_cons] at hread
      obtain ⟨hsamp, hread'⟩ := hread
      refine ih ?_ hread' hrest
      rw [hlane', hlane, hsamp, smin_self, ite_self, ite_self]
    · rw [if_neg hsample] at hread
      refine ih ?_ hread hrest
      rw [hlane', hlane, if_neg hsample, ite_self]

/-- A lane at the sentinel reports 0 (R46, R50). -/
theorem get_pay_eq_zero_of_sentinel {s : State sw tw} {c : Channel} (h : s.mr.get c = sentinel sw) :
    s.outputs.pay.get c = 0#_ := by
  rw [s.get_pay_outputs, h, pay_sentinel]

/-- Settles O50: readings of the sentinel keep the lane at the sentinel, which reports 0. -/
theorem sentinelReadingsReportZero : Obligations.SentinelReadingsReportZero := by
  rw [Obligations.SentinelReadingsReportZero, ← sentinel_default]
  exact ⟨fun _ _ => get_pay_eq_zero_of_sentinel,
    fun _ _ _ _ hlane hread h => get_pay_eq_zero_of_sentinel (get_mr_eq_sentinel_of_runEdges_next hlane hread h)⟩

end Sys2Proof.Machine
end

section
/-! PROOF. The multiplier: its product as a number, from it the exact voltage, the integer and fraction parts and the
payload, and the shift-and-add circuit, at every width (41_multiplier R47 to R50, R52). -/

namespace Sys2Proof.Machine

variable {sw : Nat}

/-! ### The magnitude -/

/-- A magnitude is at most half the range of the width, which the lowest word reaches (R47). -/
theorem two_mul_natAbs_toInt_le {w : Nat} (v : BitVec w) : 2 * v.toInt.natAbs ≤ 2 ^ w := by
  have hlo := v.le_two_mul_toInt
  have hhi := v.two_mul_toInt_lt
  zify
  rcases abs_cases v.toInt with ⟨habs, -⟩ | ⟨habs, -⟩ <;> omega

/-- The payload's width is enough for the product (R47). -/
theorem three_mul_natAbs_toInt_lt {w : Nat} (v : BitVec w) : 3 * v.toInt.natAbs < 2 ^ (w + 1) := by
  have hle := two_mul_natAbs_toInt_le v
  have hpos := Nat.two_pow_pos w
  omega

/-- A magnitude fits in one bit more than its word (R6, R47). -/
@[simp] theorem toNat_magnitude {w : Nat} (v : BitVec w) : (magnitude v).toNat = v.toInt.natAbs := by
  have hlt := three_mul_natAbs_toInt_lt v
  rw [magnitude, BitVec.toNat_ofNat, Nat.mod_eq_of_lt (by omega)]

/-- `BitVec.abs`, read unsigned, is the magnitude, at the lowest word as well. -/
theorem toNat_abs_eq_natAbs_toInt {w : Nat} (v : BitVec w) : v.abs.toNat = v.toInt.natAbs := by
  have hlt := v.isLt
  rw [BitVec.toNat_abs, BitVec.toInt_eq_msb_cond]
  split <;> omega

theorem magnitude_eq_zeroExtend_abs {w : Nat} (v : BitVec w) : magnitude v = v.abs.zeroExtend (w + 1) := by
  apply BitVec.eq_of_toNat_eq
  rw [toNat_magnitude, BitVec.toNat_setWidth_of_le w.le_succ, toNat_abs_eq_natAbs_toInt]

/-! ### The product -/

/-- The product never overflows its width (R47, R48). -/
@[simp] theorem toNat_mul3over16 {w : Nat} (v : BitVec w) : (mul3over16 v).toNat = 3 * v.toInt.natAbs := by
  rw [mul3over16, BitVec.toNat_mul, toNat_magnitude, BitVec.toNat_ofNat, Nat.mul_mod_mod, mul_comm,
    Nat.mod_eq_of_lt (three_mul_natAbs_toInt_lt v)]

theorem mul3over16_eq_of_natAbs_toInt_eq {w : Nat} {v v' : BitVec w} (h : v.toInt.natAbs = v'.toInt.natAbs) :
    mul3over16 v = mul3over16 v' := by
  apply BitVec.eq_of_toNat_eq
  rw [toNat_mul3over16, toNat_mul3over16, h]

/-- The voltage is exact: no rounding, no saturation (R48). -/
theorem millivolts_mul3over16 {w : Nat} (v : BitVec w) :
    millivolts (mul3over16 v) = |(v.toInt : Rat)| * Config.lsbMillivolts := by
  rw [millivolts, toNat_mul3over16, Config.lsbMillivolts, Nat.cast_mul, Nat.cast_natAbs, Int.cast_abs]
  ring

theorem natAbs_toInt_le (v : Sample) : v.toInt.natAbs ≤ 32768 := by
  have hle : 2 * v.toInt.natAbs ≤ 2 ^ 16 := two_mul_natAbs_toInt_le v
  omega

/-- Settles O31, from the product as a number. -/
theorem multiplierIsExact : Obligations.MultiplierIsExact := by
  refine ⟨fun _ => toNat_mul3over16, millivolts_mul3over16, fun v v' hneg => ?_, by decide, fun v => ?_⟩
  · exact mul3over16_eq_of_natAbs_toInt_eq (by rw [hneg, Int.natAbs_neg])
  · have hle := natAbs_toInt_le v
    rw [toNat_mul3over16]
    omega

/-! ### The results and their parts -/

/-- Every magnitude up to 32768 is one of a negative sample or of 0. -/
theorem natAbs_toInt_ofInt_neg {a : Nat} (h : a ≤ 32768) :
    (BitVec.ofInt Config.sampleW (-a)).toInt.natAbs = a := by
  have hlo : -2 ^ 15 ≤ -(a : Int) := by omega
  have hhi : -(a : Int) < 2 ^ 15 := by omega
  rw [BitVec.toInt_ofInt_eq_self (by decide) hlo hhi, Int.natAbs_neg, Int.natAbs_natCast]

theorem exists_mul3over16_eq_iff (m : Payload) :
    (∃ v : Sample, mul3over16 v = m) ↔ ∃ a, a ≤ 32768 ∧ m.toNat = 3 * a := by
  constructor
  · rintro ⟨v, rfl⟩
    exact ⟨v.toInt.natAbs, natAbs_toInt_le v, toNat_mul3over16 v⟩
  · rintro ⟨a, hle, hm⟩
    refine ⟨BitVec.ofInt _ (-a), BitVec.eq_of_toNat_eq ?_⟩
    rw [toNat_mul3over16, natAbs_toInt_ofInt_neg hle, hm]

theorem toNat_integerPart (m : Payload sw) : (integerPart m).toNat = m.toNat / 16 := by
  have hrange : 2 ^ (sw + 1) ≤ 2 ^ 4 * 2 ^ (sw - 3) := by
    rw [← pow_add]
    exact Nat.pow_le_pow_right (by decide) (by omega)
  rw [integerPart, BitVec.extractLsb'_toNat, Nat.shiftRight_eq_div_pow]
  exact Nat.mod_eq_of_lt (Nat.div_lt_of_lt_mul (m.isLt.trans_le hrange))

theorem toNat_fractionPart (m : Payload sw) : (fractionPart m).toNat = m.toNat % 16 := by
  rw [fractionPart, BitVec.extractLsb'_toNat, Nat.shiftRight_zero]

/-- Settles O32: each result is three times a magnitude, and each magnitude is a sample's. -/
theorem productNeverRoundsOrOverflows : Obligations.ProductNeverRoundsOrOverflows := by
  refine ⟨millivolts_mul3over16, exists_mul3over16_eq_iff, fun v => ?_⟩
  have hle := natAbs_toInt_le v
  rw [toNat_integerPart, toNat_fractionPart, toNat_mul3over16]
  exact ⟨rfl, by omega, rfl⟩

/-! ### The circuit -/

theorem shiftLeft_one_add_self {w : Nat} (m : BitVec w) : (m <<< 1) + m = m * BitVec.ofNat w 3 := by
  apply BitVec.eq_of_toNat_eq
  have hthree : m.toNat * 2 + m.toNat = m.toNat * 3 := by omega
  simp [Nat.shiftLeft_eq, hthree]

/-- The circuit is right at every width (R49). -/
theorem mul3over16_eq_shift_add_abs {w : Nat} (v : BitVec w) :
    mul3over16 v = (v.abs.zeroExtend (w + 1) <<< 1) + v.abs.zeroExtend (w + 1) := by
  rw [shiftLeft_one_add_self, ← magnitude_eq_zeroExtend_abs, mul3over16]

/-- Settles O33: the circuit's `a` is the absolute value. -/
theorem shiftAndAddCircuitConforms : Obligations.ShiftAndAddCircuitConforms := by
  intro v a ha
  have habs : a = v.abs := by rw [ha, BitVec.abs_eq, BitVec.neg_eq_not_add]
  rw [habs, mul3over16_eq_shift_add_abs]

/-! ### The payload -/

theorem pay_of_ne_sentinel {w : Nat} {r : BitVec w} (h : r ≠ sentinel w) : pay r = mul3over16 r :=
  if_neg h

/-- Settles O34, the sentinel by its payload and every other entry by the multiplier. -/
theorem payloadSubstitutesTheSentinel : Obligations.PayloadSubstitutesTheSentinel := by
  rw [Obligations.PayloadSubstitutesTheSentinel, ← sentinel_default]
  exact ⟨fun _ => ⟨fun h => h ▸ pay_sentinel, pay_of_ne_sentinel⟩, by decide⟩

/-- Settles O35: a sixteenth of a millivolt is 625 units, and the product is three times the magnitude. -/
theorem payloadHasAFourDigitDecimalForm : Obligations.PayloadHasAFourDigitDecimalForm := by
  intro sw r
  split
  case isTrue h =>
    rw [h, pay_sentinel, millivolts, BitVec.toNat_zero]
    norm_num
  case isFalse h =>
    rw [pay_of_ne_sentinel h, millivolts, toNat_mul3over16]
    push_cast
    ring

end Sys2Proof.Machine
end

section
/-! PROOF. Comparator: the elapsed time as a number, each phase's threshold, and the strict comparison of the two
(42_scheduler R54 to R56). -/

namespace Sys2Proof.Machine

variable {sw tw : Nat}

/-- The modular difference of two times is the true one, across a wrap as well, while it fits the width (R54). -/
theorem toNat_modularSub_ofNat {w start real : Nat} (hle : start ≤ real) (hlt : real - start < 2 ^ w) :
    (modularSub (BitVec.ofNat w real) (BitVec.ofNat w start)).toNat = real - start := by
  obtain ⟨waited, rfl⟩ := Nat.exists_eq_add_of_le hle
  rw [Nat.add_sub_cancel_left] at hlt ⊢
  rw [modularSub, BitVec.ofNat_add, BitVec.add_comm, BitVec.add_sub_cancel, BitVec.toNat_ofNat, Nat.mod_eq_of_lt hlt]

/-- The elapsed time is the number of milliseconds waited (R54). -/
theorem State.toNat_elapsed (s : State sw tw) : s.elapsed.toNat = s.waitedMs := by
  rw [State.elapsed, modularSub, BitVec.toNat_sub, State.timeOperand_eq, State.waitedMs]
  congr 1
  have := s.ps.isLt
  omega

/-- Settles O7, from the difference of two times given as numbers. -/
theorem elapsedIsTheModularDifference : Obligations.ElapsedIsTheModularDifference := by
  refine fun sw tw s => ⟨s.toNat_elapsed, fun start real hps hnow hle hlt => ?_⟩
  rw [State.elapsed, State.timeOperand_eq, hps, hnow, toNat_modularSub_ofNat hle hlt]

/-- Settles O8, from the thresholds in a timer wide enough for them. -/
theorem phaseSelectsItsThreshold : Obligations.PhaseSelectsItsThreshold := by
  intro sw tw hparams
  simp [toNat_threshold hparams]

/-- Settles O9: the comparison is that of the numbers, and no number is below itself. -/
theorem comparatorIsStrictAndUnsigned : Obligations.ComparatorIsStrictAndUnsigned := by
  intro sw tw s
  have hlt : s.lt = true ↔ s.elapsed.toNat < (threshold tw s.phase).toNat := by
    rw [s.lt_eq, s.toNat_elapsed, decide_eq_true_iff]
  refine ⟨hlt, fun heq => ?_⟩
  rw [Bool.eq_false_iff, Ne, hlt, heq]
  exact lt_irrefl _

end Sys2Proof.Machine
end

section
/-! PROOF. Operations: what each operation of the phase machine answers, and that a tick on its condition runs it
(42_scheduler R58 to R70). -/

namespace Sys2Proof.Machine

variable {sw tw : Nat}

/-- A tick on the condition of an operation runs it. -/
theorem step_of_tick {s : State} {i : Instr} (htick : s.inp.isTick = true) (hop : s.inp.step = true → s.op = some i) :
    step s = advanceAfter (exec i s) := by
  obtain ⟨hrst, hstep⟩ := Inputs.isTick_iff.1 htick
  exact step_of_op hrst (hop hstep)

/-- No request stands in a backoff (R61). -/
theorem Arch.txReq_of_bo {a : Arch sw tw} (h : a.bo = true) : a.txReq = false := by
  simp [Arch.txReq, h]

/-- Settles O15: without `step` the operation is IDLE, which waits. -/
theorem idleChangesNothing : Obligations.IdleChangesNothing := by
  refine fun s => ⟨rfl, fun hrst hstep => ?_⟩
  obtain ⟨hidle, -⟩ := s.op_iff
  exact step_of_op hrst (hidle.2 hstep)

/-- Settles O17: two writes, and the condition under which the vector selects END_MEASURE. -/
theorem endMeasureEntersSettling : Obligations.EndMeasureEntersSettling := by
  intro s
  obtain ⟨-, -, hendMeasure, -⟩ := operationByItsConditionInWords 16 32 s (by decide)
  exact ⟨⟨(s.setPhase Phase.settling).setPs s.inp.now, rfl, rfl, rfl, rfl, rfl, rfl, rfl, rfl⟩,
    fun htick hphase hwaited => step_of_tick htick fun hstep => hendMeasure.2 ⟨hstep, hphase, hwaited⟩⟩

/-- Settles O18: no write, and the condition under which the vector selects SETTLE_WAIT. -/
theorem settleWaitChangesNothing : Obligations.SettleWaitChangesNothing := by
  intro s
  obtain ⟨-, -, -, hsettleWait, -⟩ := operationByItsConditionInWords 16 32 s (by decide)
  exact ⟨rfl, fun htick hphase hwaited => step_of_tick htick fun hstep => hsettleWait.2 ⟨hstep, hphase, hwaited⟩⟩

/-- Settles O19: one write, and the condition under which the vector selects END_SETTLE. -/
theorem endSettleEntersTransmitting : Obligations.EndSettleEntersTransmitting := by
  intro s
  obtain ⟨-, -, -, -, hendSettle, -⟩ := operationByItsConditionInWords 16 32 s (by decide)
  exact ⟨⟨s.setPhase Phase.tx, rfl, rfl, rfl, rfl, rfl, rfl, rfl, rfl⟩,
    fun htick hphase hwaited => step_of_tick htick fun hstep => hendSettle.2 ⟨hstep, hphase, hwaited⟩⟩

/-- Settles O20: the operation is TX_WAIT at any time, and the request stands in every attempt. -/
theorem txWaitChangesNothing : Obligations.TxWaitChangesNothing := by
  intro s
  obtain ⟨-, -, -, -, -, htxWait, -⟩ := s.op_iff
  exact ⟨rfl, fun htick hphase hbo hdone =>
    ⟨step_of_tick htick fun hstep => htxWait.2 ⟨hstep, hphase, hbo, hdone⟩, (Arch.txReq_iff _).2 ⟨hphase, hbo⟩⟩⟩

/-- Settles O21: a fresh register file reports 0 on every lane. -/
theorem txOkStartsANewCycle : Obligations.TxOkStartsANewCycle := by
  intro s
  obtain ⟨-, -, -, -, -, -, htxOk, -⟩ := s.op_iff
  refine ⟨⟨((s.setMr (freshLanes _)).setPhase Phase.meas).setPs s.inp.now, rfl, fun c => ?_, rfl, rfl, rfl, rfl, rfl, rfl,
    fun c => get_pay_eq_zero_of_sentinel (get_freshLanes c)⟩, fun htick hphase hbo hdone hok => ?_⟩
  · exact (get_freshLanes c).trans sentinel_default
  · exact step_of_tick htick fun hstep => htxOk.2 ⟨hstep, hphase, hbo, hdone, hok⟩

/-- Settles O22: the flag it sets takes the request away. -/
theorem txFailStartsTheBackoff : Obligations.TxFailStartsTheBackoff := by
  intro s
  obtain ⟨-, -, -, -, -, -, -, htxFail, -⟩ := s.op_iff
  exact ⟨⟨(s.setBo true).setPs s.inp.now, rfl, rfl, rfl, rfl, rfl, rfl, rfl, rfl, rfl, Arch.txReq_of_bo rfl⟩,
    fun htick hphase hbo hdone hok => step_of_tick htick fun hstep => htxFail.2 ⟨hstep, hphase, hbo, hdone, hok⟩⟩

/-- Settles O23: the operation is BO_WAIT whatever the client reports, and no request stands in a backoff. -/
theorem boWaitChangesNothing : Obligations.BoWaitChangesNothing := by
  intro s
  obtain ⟨-, -, -, -, -, -, -, -, hboWait, -⟩ := operationByItsConditionInWords 16 32 s (by decide)
  exact ⟨rfl, fun htick hphase hbo hwaited =>
    ⟨step_of_tick htick fun hstep => hboWait.2 ⟨hstep, hphase, hbo, hwaited⟩, Arch.txReq_of_bo hbo⟩⟩

/-- Settles O24: with the flag cleared the request stands again. -/
theorem boEndRearmsTheAttempt : Obligations.BoEndRearmsTheAttempt := by
  intro s
  obtain ⟨-, -, -, -, -, -, -, -, -, hboEnd, -⟩ := operationByItsConditionInWords 16 32 s (by decide)
  exact ⟨⟨s.setBo false, rfl, rfl, rfl, rfl, rfl, rfl, rfl, rfl, fun hphase => (Arch.txReq_iff _).2 ⟨hphase, rfl⟩⟩,
    fun htick hphase hbo hwaited => step_of_tick htick fun hstep => hboEnd.2 ⟨hstep, hphase, hbo, hwaited⟩⟩

/-- Settles O25: a tick in phase 11 performs ILLEGAL, whose fault is no next state to advance. -/
theorem illegalStopsWithItsFault : Obligations.IllegalStopsWithItsFault := by
  intro s
  obtain ⟨-, -, -, -, -, -, -, -, -, -, hillegal⟩ := s.op_iff
  exact ⟨rfl, rfl, fun htick hphase => step_of_tick htick fun hstep => hillegal.2 ⟨hstep, hphase⟩⟩

end Sys2Proof.Machine
end

section
/-! PROOF. Transitions: what an edge that performs an operation does to the phase, the flag and the request
(42_scheduler R57, R61, R69). -/

namespace Sys2Proof.Machine

variable {sw tw : Nat}

/-- Without reset the operation alone says which registers an edge writes. -/
theorem arch_of_op {s t : State sw tw} {i : Instr} (hrst : s.inp.rst = false) (hop : s.op = some i)
    (h : stepAt s = .next t) :
    t.phase = (if i = .txOk then Phase.meas else if i = .endMeasure then Phase.settling
      else if i = .endSettle then Phase.tx else s.phase) ∧
    t.bo = (if i = .boEnd then false else if i = .txFail then true else s.bo) ∧
    t.ps = (if i = .endMeasure ∨ i = .txOk ∨ i = .txFail then s.inp.now else s.ps) ∧
    t.mr = (if i = .txOk then freshLanes sw else if i = .sample then minUpdate s.mr s.inp.samp else s.mr) := by
  have harch := arch_of_stepAt_next h
  simp only [State.archAfter, hrst, hop, Bool.false_eq_true, false_or, Option.some.injEq] at harch
  exact Arch.mk.inj harch

/-- Settles O26: three operations write the phase, and `arch_of_op` says what else each of them writes. -/
theorem phaseChangePerformsNothingMore : Obligations.PhaseChangePerformsNothingMore := by
  intro s t hrst h hchange
  rw [step_eq_stepAt] at h
  obtain ⟨i, hop⟩ := decode_isSome s.dv
  obtain ⟨hphase, hbo, hps, hmr⟩ := arch_of_op hrst hop h
  split_ifs at hphase with htxOk hendMeasure hendSettle
  · subst htxOk
    exact .inr (.inr ⟨hop, fun c => by simpa [sentinel_default] using congrArg (Lanes.get · c) hmr, hbo⟩)
  · subst hendMeasure
    exact .inl ⟨hop, hmr, hbo⟩
  · subst hendSettle
    exact .inr (.inl ⟨hop, hmr, hbo, hps⟩)
  · exact absurd hphase hchange

/-- A legal state has the flag down outside TRANSMITTING (R17). -/
theorem bo_eq_false_of_legal {s : State sw tw} (hs : s.Legal) (h : s.phase ≠ Phase.tx) : s.bo = false := by
  obtain ⟨-, hbo⟩ := hs
  exact Bool.eq_false_iff.2 (mt hbo h)

/-- Settles O45: the row is that of the operation, whose condition gives the phase and, in a legal state, the flag it
starts from. -/
theorem transitionGraph : Obligations.TransitionGraph := by
  intro sw tw s t hs hrst h
  obtain ⟨i, hop⟩ := decode_isSome s.dv
  obtain ⟨hphase, hbo, hps, hmr⟩ := arch_of_op hrst hop h
  refine ⟨i, hop, ?_, fun h1 h2 h3 => by simp [hps, h1, h2, h3], fun hi => by rw [hps, if_pos hi],
    fun h1 h2 => by simp [hmr, h1, h2]⟩
  have hclear := bo_eq_false_of_legal hs
  obtain ⟨-, hsample, hendMeasure, hsettleWait, hendSettle, htxWait, htxOk, htxFail, hboWait, hboEnd, hillegal⟩ :=
    s.op_iff
  cases i with
  | idle => simp [hphase, hbo]
  | sample =>
    obtain ⟨-, hmeas, -⟩ := hsample.1 hop
    simp [hphase, hbo, hmeas, hclear]
  | endMeasure =>
    obtain ⟨-, hmeas, -⟩ := hendMeasure.1 hop
    simp [hphase, hbo, hmeas, hclear]
  | settleWait =>
    obtain ⟨-, hsettling, -⟩ := hsettleWait.1 hop
    simp [hphase, hbo, hsettling, hclear]
  | endSettle =>
    obtain ⟨-, hsettling, -⟩ := hendSettle.1 hop
    simp [hphase, hbo, hsettling, hclear]
  | txWait =>
    obtain ⟨-, htx, hdown, -⟩ := htxWait.1 hop
    simp [hphase, hbo, htx, hdown]
  | txOk =>
    obtain ⟨-, htx, hdown, -⟩ := htxOk.1 hop
    simp [hphase, hbo, htx, hdown]
  | txFail =>
    obtain ⟨-, htx, hdown, -⟩ := htxFail.1 hop
    simp [hphase, hbo, htx, hdown]
  | boWait =>
    obtain ⟨-, htx, hup, -⟩ := hboWait.1 hop
    simp [hphase, hbo, htx, hup]
  | boEnd =>
    obtain ⟨-, htx, hup, -⟩ := hboEnd.1 hop
    simp [hphase, hbo, htx, hup]
  | illegal =>
    obtain ⟨hphase, -⟩ := hs
    exact absurd (hillegal.1 hop).2 hphase

/-- What an edge does to the request, by what it performs (R61). -/
theorem txReq_cases_of_stepAt_next {s t : State sw tw} (h : stepAt s = .next t) :
    (s.inp.rst = true ∧ t.arch.txReq = false) ∨
    ((s.op = some .txOk ∨ s.op = some .txFail) ∧ t.arch.txReq = false) ∨
    ((s.op = some .endSettle ∨ s.op = some .boEnd) ∧ s.arch.txReq = false) ∨
    t.arch.txReq = s.arch.txReq := by
  obtain ⟨-, -, hendMeasure, -, hendSettle, -, -, -, -, hboEnd, -⟩ := s.op_iff
  obtain ⟨hrst, harch⟩ | ⟨-, hop⟩ := stepAt_next_cases h
  · exact .inl ⟨hrst, congrArg Arch.txReq harch⟩
  rcases hop with ⟨-, harch⟩ | ⟨-, harch⟩ | ⟨hop, harch⟩ | ⟨-, harch⟩ | ⟨hop, -⟩ |
    ⟨-, harch⟩ | ⟨hop, harch⟩ | ⟨hop, harch⟩ | ⟨-, harch⟩ | ⟨hop, -⟩
  · exact .inr (.inr (.inr (congrArg Arch.txReq harch))) -- IDLE
  · exact .inr (.inr (.inr (by rw [harch]; rfl))) -- SAMPLE
  · obtain ⟨-, hmeas, -⟩ := hendMeasure.1 hop -- END_MEASURE
    exact .inr (.inr (.inr (by simp [Arch.txReq, harch, hmeas])))
  · exact .inr (.inr (.inr (congrArg Arch.txReq harch))) -- SETTLE_WAIT
  · obtain ⟨-, hsettling, -⟩ := hendSettle.1 hop -- END_SETTLE
    exact .inr (.inr (.inl ⟨.inl hop, by simp [Arch.txReq, hsettling]⟩))
  · exact .inr (.inr (.inr (congrArg Arch.txReq harch))) -- TX_WAIT
  · exact .inr (.inl ⟨.inl hop, congrArg Arch.txReq harch⟩) -- TX_OK
  · exact .inr (.inl ⟨.inr hop, Arch.txReq_of_bo (by rw [harch])⟩) -- TX_FAIL
  · exact .inr (.inr (.inr (congrArg Arch.txReq harch))) -- BO_WAIT
  · obtain ⟨-, -, hbo, -⟩ := hboEnd.1 hop -- BO_END
    exact .inr (.inr (.inl ⟨.inr hop, Arch.txReq_of_bo hbo⟩))

/-- Only a tick with an outcome ends an attempt (R62, R63). -/
theorem txDone_of_op {s : State sw tw} (h : s.op = some .txOk ∨ s.op = some .txFail) : s.inp.txDone = true := by
  obtain ⟨-, -, -, -, -, -, htxOk, htxFail, -⟩ := s.op_iff
  obtain hop | hop := h
  · obtain ⟨-, -, -, hdone, -⟩ := htxOk.1 hop
    exact hdone
  · obtain ⟨-, -, -, hdone, -⟩ := htxFail.1 hop
    exact hdone

/-- Settles O38, by what the edge does to the request. -/
theorem attemptBeginsAndEnds : Obligations.AttemptBeginsAndEnds := by
  intro s t h
  rw [step_eq_stepAt] at h
  refine ⟨s.arch.txReq_iff, fun hs ht => ?_, fun hs ht => ?_⟩
  · obtain ⟨-, hlow⟩ | ⟨-, hlow⟩ | ⟨hop, -⟩ | hkept := txReq_cases_of_stepAt_next h
    · exact absurd (hlow.symm.trans ht) (by decide)
    · exact absurd (hlow.symm.trans ht) (by decide)
    · exact hop
    · exact absurd (hs.symm.trans (hkept.symm.trans ht)) (by decide)
  · obtain ⟨hrst, -⟩ | ⟨hop, -⟩ | ⟨-, hlow⟩ | hkept := txReq_cases_of_stepAt_next h
    · exact .inl hrst
    · exact .inr ⟨txDone_of_op hop, hop⟩
    · exact absurd (hlow.symm.trans hs) (by decide)
    · exact absurd (ht.symm.trans (hkept.trans hs)) (by decide)

end Sys2Proof.Machine
end

section
/-! PROOF. Waiting and success over runs: edges that only wait keep the registers, and a run without SAMPLE keeps a fresh
register file (42_scheduler R59, R62, R66, R69). -/

namespace Sys2Proof.Machine

variable {sw tw : Nat}

/-- The operations that only wait: none of them writes a register (R59, R62, R66, R70). -/
def waitingOps : List Instr :=
  [.idle, .settleWait, .txWait, .boWait]

theorem execAt_of_mem_waitingOps {i : Instr} (hi : i ∈ waitingOps) (s : State sw tw) : execAt i s = .next s := by
  simp only [waitingOps, List.mem_cons, List.not_mem_nil, or_false] at hi
  rcases hi with rfl | rfl | rfl | rfl <;> rfl

/-- An edge that performs a waiting operation only lets the next edge come. -/
theorem stepAt_of_op_mem_waitingOps {s : State sw tw} {i : Instr} (hrst : s.inp.rst = false) (hop : s.op = some i)
    (hi : i ∈ waitingOps) : stepAt s = .next s.advance := by
  rw [stepAt_of_decode hrst hop, execAt_of_mem_waitingOps hi, advanceAfter]

/-- An edge of a run that performs a waiting operation keeps the registers. -/
theorem edgeStep_keeps_arch_of_waiting {s : State sw tw} {e : Inputs sw tw} {i : Instr} (hrst : e.rst = false)
    (hop : (s.facing e).op = some i) (hi : i ∈ waitingOps) : ∃ t, edgeStep s e = .next t ∧ t.arch = s.arch :=
  ⟨(s.facing e).advance, stepAt_of_op_mem_waitingOps hrst hop hi, rfl⟩

/-- Settles O54: with `tx_done` at 0 an edge of an attempt is IDLE or TX_WAIT. -/
theorem attemptHasNoTimeout : Obligations.AttemptHasNoTimeout := by
  intro s es hreq hes
  refine runEdges_keeps_arch fun e he u hu => ?_
  obtain ⟨hrst, hdone⟩ := hes e he
  obtain ⟨htx, hbo⟩ := u.arch.txReq_iff.1 (hu ▸ hreq)
  obtain ⟨hidle, -, -, -, -, htxWait, -⟩ := (u.facing e).op_iff
  rw [← hu]
  cases hstep : e.step with
  | false => exact edgeStep_keeps_arch_of_waiting hrst (hidle.2 hstep) (by decide)
  | true => exact edgeStep_keeps_arch_of_waiting hrst (htxWait.2 ⟨hstep, htx, hbo, hdone⟩) (by decide)

/-- Settles O55: inside the window an edge is IDLE or the waiting operation of the phase. -/
theorem waitingWindowsBlock : Obligations.WaitingWindowsBlock := by
  intro s es hphase hes
  refine runEdges_keeps_arch fun e he u hu => ?_
  obtain ⟨hrst, hwaited⟩ := hes e he
  obtain ⟨hup, hub, hups, -⟩ := (u.arch_eq_iff s).1 hu
  have hsame : (s.facing e).waitedMs = (u.facing e).waitedMs := by simp [State.waitedMs, hups]
  obtain ⟨hidle, -, -, hsettleWait, -, -, -, -, hboWait, -⟩ :=
    operationByItsConditionInWords 16 32 (u.facing e) (by decide)
  rw [← hu]
  rw [hsame, ← hup] at hwaited
  rw [← hup, ← hub] at hphase
  cases hstep : e.step with
  | false => exact edgeStep_keeps_arch_of_waiting hrst (hidle.2 hstep) (by decide)
  | true =>
    obtain hsettling | ⟨htx, hbo⟩ := hphase
    · rw [if_pos hsettling] at hwaited
      exact edgeStep_keeps_arch_of_waiting hrst (hsettleWait.2 ⟨hstep, hsettling, hwaited⟩) (by decide)
    · rw [if_neg (by simp [htx])] at hwaited
      exact edgeStep_keeps_arch_of_waiting hrst (hboWait.2 ⟨hstep, htx, hbo, hwaited⟩) (by decide)

/-- A run that performs no SAMPLE reads no lane. -/
theorem readings_eq_nil {s : State sw tw} {es : List (Inputs sw tw)} (h : some .sample ∉ operations s es)
    (c : Channel) : readings c s es = [] := by
  rw [readings, List.map_eq_nil_iff, List.filter_eq_nil_iff]
  intro v hv hsample
  exact h (List.mem_map.2 ⟨v, hv, beq_iff_eq.1 hsample⟩)

/-- Settles O52: TX_OK leaves every lane at the sentinel, where a run without readings keeps it. -/
theorem zeroPayloadAfterSuccess : Obligations.ZeroPayloadAfterSuccess := by
  intro s t u e es hop hstep hrun hnone c
  have hfresh : t.mr.get c = sentinel _ := by rw [get_mr_of_edgeStep_next hstep, if_pos (.inr hop)]
  refine get_pay_eq_zero_of_sentinel (get_mr_eq_sentinel_of_runEdges_next hfresh ?_ hrun)
  simp [readings_eq_nil hnone c]

end Sys2Proof.Machine
end

section
/-! PROOF. Window laws: at every edge of a run under the duty of the time base the current window has either not elapsed at
the last tick or stands still for an attempt, so that the tick that ends it comes within one spacing (42_scheduler R69). -/

namespace Sys2Proof.Machine

variable {sw tw : Nat}

/-! ### Visits of a host's run -/

/-- The real time of the last write of `ps` after the visit's edge. -/
def HostVisit.psTimeAfter (v : HostVisit sw tw) : Nat :=
  if v.writesPs then v.edge.realTime else v.psTime

/-- The real time of the last tick or reset after the visit's edge. -/
def HostVisit.prevAfter (v : HostVisit sw tw) : Nat :=
  if v.edge.inputs.rst || v.edge.inputs.isTick then v.edge.realTime else v.prev

/-- A fact about every visit of a run is one about the first visit and, where its edge has a next state, about the visits
of the rest. -/
theorem forall_mem_hostVisits_cons {P : HostVisit sw tw → Prop} {s : State sw tw} {psTime prev : Nat}
    {h : HostEdge sw tw} {hs : List (HostEdge sw tw)} {v : HostVisit sw tw} (hv : v = ⟨s, psTime, prev, h⟩) :
    (∀ x ∈ hostVisits s psTime prev (h :: hs), P x) ↔
      P v ∧ ∀ t, edgeStep s h.inputs = .next t → ∀ x ∈ hostVisits t v.psTimeAfter v.prevAfter hs, P x := by
  subst hv
  rw [hostVisits, List.forall_mem_cons]
  refine and_congr_right fun _ => ?_
  cases edgeStep s h.inputs <;> simp [HostVisit.psTimeAfter, HostVisit.prevAfter]

/-! ### The window at a visit -/

/-- The current window was open at the last tick or reset: `ps` is the real time of its start, and the window had not
elapsed, unless an attempt is in progress, which no window ends. -/
structure State.InWindow (s : State sw tw) (psTime prev : Nat) : Prop where
  legal : s.Legal
  ps_eq : s.ps = BitVec.ofNat tw psTime
  psTime_le : psTime ≤ prev
  inside : s.arch.txReq = true ∨ prev - psTime < (threshold tw s.phase).toNat

variable {v : HostVisit sw tw} {D : Nat}

/-- At a tick the comparator measures the real time since the last write of `ps` (R54). -/
theorem waitedMs_eq_waited (hin : v.state.InWindow v.psTime v.prev) (hduty : timeDuty v)
    (htick : v.edge.inputs.isTick = true) : (v.state.facing v.edge.inputs).waitedMs = v.waited := by
  obtain ⟨hnow, hlt⟩ := hduty
  obtain ⟨hnow, hprev⟩ := hnow (.inr htick)
  rw [← State.toNat_elapsed, State.elapsed, State.timeOperand_eq, State.inp_facing, State.ps_facing, hnow, hin.ps_eq]
  exact toNat_modularSub_ofNat (hin.psTime_le.trans hprev) (hlt htick)

/-- Outside an attempt a tick comes less than one spacing after the window has elapsed. -/
theorem waited_lt_threshold_add (hin : v.state.InWindow v.psTime v.prev) (hspacing : tickSpacing D v)
    (htick : v.edge.inputs.isTick = true) (hreq : v.state.arch.txReq = false) :
    v.waited < (threshold tw v.state.phase).toNat + D := by
  have hle := hspacing htick
  have hinside := hin.inside.resolve_left (by simp [hreq])
  have hps := hin.psTime_le
  rw [HostVisit.waited]
  omega

/-- A tick performs what its vector selects. -/
theorem HostVisit.op_of_isTick (htick : v.edge.inputs.isTick = true) :
    v.op = (v.state.facing v.edge.inputs).op := by
  obtain ⟨hrst, -⟩ := Inputs.isTick_iff.1 htick
  exact v.state.performs_of_not_rst hrst

/-- An operation other than IDLE is performed at a tick. -/
theorem HostVisit.isTick_of_op {i : Instr} (h : v.op = some i) (hi : i ≠ .idle) : v.edge.inputs.isTick = true := by
  cases hrst : v.edge.inputs.rst with
  | true => simp [HostVisit.op, State.performs, hrst] at h
  | false =>
    rw [HostVisit.op, v.state.performs_of_not_rst hrst] at h
    obtain ⟨hidle, -⟩ := (v.state.facing v.edge.inputs).op_iff
    refine Inputs.isTick_iff.2 ⟨hrst, ?_⟩
    rw [← Bool.not_eq_false]
    exact fun hstep => hi (Option.some.inj (h.symm.trans (hidle.2 hstep)))

/-- The window laws at one visit: the lower bounds and the waits are the operations' conditions, the upper bounds come
from the spacing. -/
theorem windowLaw_of_inWindow (hparams : paramsOk sw tw = true) (hin : v.state.InWindow v.psTime v.prev)
    (hduty : timeDuty v) (hspacing : tickSpacing D v) : windowLaw D v := by
  cases hop : v.op with
  | none => simp [windowLaw, hop]
  | some i =>
    by_cases hi : i = .idle
    · simp [windowLaw, hop, hi]
    have htick := HostVisit.isTick_of_op hop hi
    have hlate := waited_lt_threshold_add hin hspacing htick
    obtain ⟨-, hsample, hendMeasure, hsettleWait, hendSettle, -, -, -, hboWait, hboEnd, -⟩ :=
      operationByItsConditionInWords sw tw (v.state.facing v.edge.inputs) hparams
    simp only [← HostVisit.op_of_isTick htick, State.phase_facing, State.bo_facing, waitedMs_eq_waited hin hduty htick]
      at hsample hendMeasure hsettleWait hendSettle hboWait hboEnd
    rw [toNat_threshold hparams] at hlate
    simp only [windowLaw, hop]
    cases i with
    | idle | txWait | txOk | txFail | illegal => trivial
    | sample =>
      obtain ⟨-, -, hwaited⟩ := hsample.1 hop
      exact hwaited
    | endMeasure =>
      obtain ⟨-, hmeas, hwaited⟩ := hendMeasure.1 hop
      exact ⟨hwaited, by simpa [Arch.txReq, hmeas] using hlate⟩
    | settleWait =>
      obtain ⟨-, -, hwaited⟩ := hsettleWait.1 hop
      exact hwaited
    | endSettle =>
      obtain ⟨-, hsettling, hwaited⟩ := hendSettle.1 hop
      exact ⟨hwaited, by simpa [Arch.txReq, hsettling] using hlate⟩
    | boWait =>
      obtain ⟨-, -, -, hwaited⟩ := hboWait.1 hop
      exact hwaited
    | boEnd =>
      obtain ⟨-, htx, hbo, hwaited⟩ := hboEnd.1 hop
      exact ⟨hwaited, by simpa [Arch.txReq, htx, hbo] using hlate⟩

/-! ### The window after an edge -/

/-- A tick that does not write `ps` finds the window open and stays in its phase, or leaves an attempt in progress. -/
theorem txReq_or_lt_of_stepAt_next {s t : State sw tw} (hs : s.Legal) (htick : s.inp.isTick = true)
    (hop : s.op ≠ some .endMeasure ∧ s.op ≠ some .txOk ∧ s.op ≠ some .txFail) (h : stepAt s = .next t) :
    t.arch.txReq = true ∨ (t.phase = s.phase ∧ s.lt = true) := by
  obtain ⟨hrst, hstep⟩ := Inputs.isTick_iff.1 htick
  obtain ⟨hendMeasure, htxOk, htxFail⟩ := hop
  obtain ⟨hidle, hsample, -, hsettleWait, hendSettle, htxWait, -, -, hboWait, hboEnd, hillegal⟩ := s.op_iff
  obtain ⟨i, hop⟩ := decode_isSome s.dv
  obtain ⟨hphase, hbo, -⟩ := arch_of_op hrst hop h
  rw [t.arch.txReq_iff]
  cases i with
  | idle => exact absurd ((hidle.1 hop).symm.trans hstep) (by decide)
  | endMeasure => exact absurd hop hendMeasure
  | txOk => exact absurd hop htxOk
  | txFail => exact absurd hop htxFail
  | illegal =>
    obtain ⟨hphase, -⟩ := hs
    exact absurd (hillegal.1 hop).2 hphase
  | sample =>
    obtain ⟨-, -, hlt⟩ := hsample.1 hop
    exact .inr ⟨hphase, hlt⟩
  | settleWait =>
    obtain ⟨-, -, hlt⟩ := hsettleWait.1 hop
    exact .inr ⟨hphase, hlt⟩
  | boWait =>
    obtain ⟨-, -, -, hlt⟩ := hboWait.1 hop
    exact .inr ⟨hphase, hlt⟩
  | txWait =>
    obtain ⟨-, htx, hdown, -⟩ := htxWait.1 hop
    exact .inl ⟨hphase.trans htx, hbo.trans hdown⟩
  | endSettle =>
    obtain ⟨-, hsettling, -⟩ := hendSettle.1 hop
    exact .inl ⟨hphase, hbo.trans (bo_eq_false_of_legal hs (by simp [hsettling]))⟩
  | boEnd =>
    obtain ⟨-, htx, -⟩ := hboEnd.1 hop
    exact .inl ⟨hphase.trans htx, hbo⟩

/-- An edge writes `ps` at a reset or by one of three operations (R15). -/
theorem HostVisit.writesPs_iff :
    v.writesPs = true ↔ v.edge.inputs.rst = true ∨ v.op = some .endMeasure ∨ v.op = some .txOk ∨ v.op = some .txFail := by
  simp [HostVisit.writesPs]

/-- Only a tick or a reset edge writes `ps`. -/
theorem HostVisit.rst_or_isTick_of_writesPs (h : v.writesPs = true) :
    v.edge.inputs.rst = true ∨ v.edge.inputs.isTick = true := by
  obtain hrst | hop | hop | hop := HostVisit.writesPs_iff.1 h
  · exact .inl hrst
  · exact .inr (HostVisit.isTick_of_op hop (by decide))
  · exact .inr (HostVisit.isTick_of_op hop (by decide))
  · exact .inr (HostVisit.isTick_of_op hop (by decide))

/-- The timestamp after a visit's edge. -/
theorem HostVisit.ps_of_edgeStep_next {t : State sw tw} (h : edgeStep v.state v.edge.inputs = .next t) :
    t.ps = if v.writesPs then v.edge.inputs.now else v.state.ps := by
  obtain ⟨hwriters, -⟩ := writersAndReaderOfTheTimestamp
  rw [hwriters sw tw _ t h]
  refine if_congr ?_ rfl rfl
  rw [HostVisit.writesPs_iff, State.inp_facing]
  refine or_congr_right' fun hrst => ?_
  rw [HostVisit.op, v.state.performs_of_not_rst (Bool.eq_false_iff.2 hrst)]

/-- An edge that writes `ps` starts a window at its own real time. -/
theorem inWindow_of_writesPs (hparams : paramsOk sw tw = true) (hlegal : v.state.Legal) (hduty : timeDuty v)
    (hwrites : v.writesPs = true) {t : State sw tw} (h : edgeStep v.state v.edge.inputs = .next t) :
    t.InWindow v.psTimeAfter v.prevAfter := by
  have hedge := HostVisit.rst_or_isTick_of_writesPs hwrites
  have hpsTime : v.psTimeAfter = v.edge.realTime := if_pos hwrites
  have hprev : v.prevAfter = v.edge.realTime := if_pos (by simpa using hedge)
  obtain ⟨hnow, -⟩ := hduty
  obtain ⟨hnow, -⟩ := hnow hedge
  rw [hprev, hpsTime]
  refine ⟨legal_of_stepAt_next (s := v.state.facing v.edge.inputs) hlegal h, ?_, le_rfl, .inr ?_⟩
  · rw [HostVisit.ps_of_edgeStep_next h, if_pos hwrites, hnow]
  · rw [Nat.sub_self, toNat_threshold hparams]
    split_ifs <;> decide

/-- A tick that keeps `ps` leaves the window open, or an attempt in progress. -/
theorem inWindow_of_isTick (hin : v.state.InWindow v.psTime v.prev) (hduty : timeDuty v)
    (htick : v.edge.inputs.isTick = true) (hkeeps : v.writesPs = false) {t : State sw tw}
    (h : edgeStep v.state v.edge.inputs = .next t) : t.InWindow v.psTimeAfter v.prevAfter := by
  have hpsTime : v.psTimeAfter = v.psTime := if_neg (by simp [hkeeps])
  have hprev : v.prevAfter = v.edge.realTime := if_pos (by simp [htick])
  have hwaited := waitedMs_eq_waited hin hduty htick
  obtain ⟨hnow, -⟩ := hduty
  obtain ⟨-, hle⟩ := hnow (.inr htick)
  obtain ⟨-, hop⟩ := not_or.1 (mt HostVisit.writesPs_iff.2 (Bool.eq_false_iff.1 hkeeps))
  rw [HostVisit.op_of_isTick htick, not_or, not_or] at hop
  rw [hpsTime, hprev]
  refine ⟨legal_of_stepAt_next (s := v.state.facing v.edge.inputs) hin.legal h, ?_, hin.psTime_le.trans hle, ?_⟩
  · rw [HostVisit.ps_of_edgeStep_next h, hkeeps, if_neg (by decide), hin.ps_eq]
  · refine (txReq_or_lt_of_stepAt_next (s := v.state.facing v.edge.inputs) hin.legal htick hop h).imp_right ?_
    rintro ⟨hphase, hlt⟩
    rw [State.lt_eq, decide_eq_true_iff, hwaited] at hlt
    rwa [hphase]

/-- An edge under the duty of the time base keeps the window open. -/
theorem inWindow_of_edgeStep_next (hparams : paramsOk sw tw = true) (hin : v.state.InWindow v.psTime v.prev)
    (hduty : timeDuty v) {t : State sw tw} (h : edgeStep v.state v.edge.inputs = .next t) :
    t.InWindow v.psTimeAfter v.prevAfter := by
  cases hwrites : v.writesPs with
  | true => exact inWindow_of_writesPs hparams hin.legal hduty hwrites h
  | false =>
    cases htick : v.edge.inputs.isTick with
    | true => exact inWindow_of_isTick hin hduty htick hwrites h
    | false =>
      have hrst : v.edge.inputs.rst = false :=
        Bool.eq_false_iff.2 (mt (fun hrst => HostVisit.writesPs_iff.2 (.inl hrst)) (Bool.eq_false_iff.1 hwrites))
      have hstep : v.edge.inputs.step = false := by simpa [Inputs.isTick, hrst] using htick
      have hpsTime : v.psTimeAfter = v.psTime := if_neg (by simp [hwrites])
      have hprev : v.prevAfter = v.prev := if_neg (by simp [hrst, htick])
      rw [edgeStep_idle v.state hrst hstep] at h
      cases h
      rw [hpsTime, hprev]
      exact ⟨hin.legal, hin.ps_eq, hin.psTime_le, hin.inside⟩

/-- Settles O57: the window is open at the start and every edge keeps it open. -/
theorem windowLawsHoldInRealTime : Obligations.WindowLawsHoldInRealTime := by
  intro sw tw D s psTime prev hs hparams hlegal hps hle hinside hduties
  have hin : s.InWindow psTime prev := ⟨hlegal, hps, hle, hinside⟩
  clear hlegal hps hle hinside
  induction hs generalizing s psTime prev with
  | nil => simp [hostVisits]
  | cons h hs ih =>
    rw [forall_mem_hostVisits_cons rfl] at hduties ⊢
    obtain ⟨⟨hduty, hspacing⟩, hrest⟩ := hduties
    exact ⟨windowLaw_of_inWindow hparams hin hduty hspacing, fun t ht =>
      ih t _ _ (hrest t ht) (inWindow_of_edgeStep_next hparams hin hduty ht)⟩

end Sys2Proof.Machine
end

section
/-! PROOF. Runs and their stops: from a legal state no edge stops the run, and a fault ends it (10_state R17;
60_exceptions R72). -/

namespace Sys2Proof.Machine

variable {sw tw : Nat}

/-- From a legal state every edge has a next state: ILLEGAL is selected in phase 11 only. -/
theorem stepAt_next_of_legal {s : State sw tw} (hs : s.Legal) : ∃ t, stepAt s = .next t := by
  obtain ⟨hphase, -⟩ := hs
  obtain ⟨-, -, -, -, -, -, -, -, -, -, hillegal⟩ := s.op_iff
  exact stepAt_next_iff.2 (.inr fun hop => hphase (hillegal.1 hop).2)

/-- Settles O42, by induction on the inputs: each edge has a next state, which is legal again. -/
theorem legalStatesRunForEver : Obligations.LegalStatesRunForEver := by
  intro sw tw s es hs
  induction es generalizing s with
  | nil => exact ⟨s, runEdges_nil s⟩
  | cons e es ih =>
    have hfacing : (s.facing e).Legal := hs
    obtain ⟨t, ht⟩ := stepAt_next_of_legal hfacing
    rw [runEdges_cons_of_next ht]
    exact ih t (legal_of_stepAt_next hfacing ht)

/-- A run goes on from the state to which its beginning leads. -/
theorem runEdges_append_of_next {s t : State sw tw} {es : List (Inputs sw tw)} (h : runEdges s es = .next t)
    (rest : List (Inputs sw tw)) : runEdges s (es ++ rest) = runEdges t rest := by
  induction es generalizing s with
  | nil =>
    cases h
    rfl
  | cons e es ih =>
    obtain ⟨s', hs', hrest⟩ := edgeStep_next_of_runEdges_cons h
    rw [List.cons_append, runEdges_cons_of_next hs', ih hrest]

theorem runEdges_cons_of_fault {s : State sw tw} {e : Inputs sw tw} {r : Fault sw tw} (h : edgeStep s e = .fault r)
    (es : List (Inputs sw tw)) : runEdges s (e :: es) = .fault r := by
  simp only [runEdges, h]

/-- Settles O44: the run comes to the edge that faults, and ends there. -/
theorem faultIsSticky : Obligations.FaultIsSticky := by
  intro sw tw s t es rest e r hrun hfault
  rw [runEdges_append_of_next hrun, runEdges_cons_of_fault hfault]

end Sys2Proof.Machine
end

section
/-! PROOF. Exchanges: at a visit under the duties of the front end and the client, outcomes are true and SAMPLE folds in
the conversions made for its tick (40_minhold R42; 60_exceptions R79; 70_reset_and_hazards R87, R88). -/

namespace Sys2Proof.Machine

variable {sw tw : Nat} {v : HostVisit sw tw}

/-- An operation other than IDLE is the one the vector selects. -/
theorem HostVisit.op_facing_of_op {i : Instr} (h : v.op = some i) (hi : i ≠ .idle) :
    (v.state.facing v.edge.inputs).op = some i :=
  HostVisit.op_of_isTick (HostVisit.isTick_of_op h hi) ▸ h

/-- A visit that performs SAMPLE leads to a next state with every lane folded with its sample (R42). -/
theorem HostVisit.edgeStep_of_op_sample (h : v.op = some .sample) :
    ∃ t, edgeStep v.state v.edge.inputs = .next t ∧
      ∀ c, t.mr.get c = smin (v.state.mr.get c) (v.edge.inputs.samp.get c) := by
  obtain ⟨hrst, -⟩ := Inputs.isTick_iff.1 (HostVisit.isTick_of_op h (by decide))
  have hop := HostVisit.op_facing_of_op h (by decide)
  exact ⟨_, stepAt_of_decode hrst hop, get_minUpdate v.state.mr v.edge.inputs.samp⟩

/-- Where an attempt is requested, a tick reports truly whether it has ended (R79, R87). -/
theorem attemptEnded_eq_txDone {i : Instr} (hduty : clientDuty v) (hop : v.op = some i) (hi : i ≠ .idle)
    (htx : v.state.phase = Phase.tx) (hbo : v.state.bo = false) : v.edge.attemptEnded = v.edge.inputs.txDone :=
  (hduty (HostVisit.isTick_of_op hop hi) ((Arch.txReq_iff _).2 ⟨htx, hbo⟩)).symm

/-- The exchange law at one visit: an attempt's operations are selected by the client's true report, and SAMPLE reads
the conversions. -/
theorem exchangeLaw_of_duties (hfront : frontEndDuty v) (hclient : clientDuty v) : exchangeLaw v := by
  obtain ⟨-, -, -, -, -, htxWait, htxOk, htxFail, -⟩ := (v.state.facing v.edge.inputs).op_iff
  cases hop : v.op with
  | none => simp only [exchangeLaw, hop]
  | some i =>
    simp only [exchangeLaw, hop]
    cases i with
    | idle | endMeasure | settleWait | endSettle | boWait | boEnd | illegal => trivial
    | sample =>
      obtain ⟨t, ht, hlanes⟩ := HostVisit.edgeStep_of_op_sample hop
      refine ⟨t, ht, fun c => ⟨v.edge.inputs.samp.get c, hfront hop c, ?_⟩⟩
      rw [hlanes, toInt_smin]
    | txWait =>
      obtain ⟨-, htx, hbo, hdone⟩ := htxWait.1 (HostVisit.op_facing_of_op hop (by decide))
      exact (attemptEnded_eq_txDone hclient hop (by decide) htx hbo).trans hdone
    | txOk =>
      obtain ⟨-, htx, hbo, hdone, -⟩ := htxOk.1 (HostVisit.op_facing_of_op hop (by decide))
      exact (attemptEnded_eq_txDone hclient hop (by decide) htx hbo).trans hdone
    | txFail =>
      obtain ⟨-, htx, hbo, hdone, -⟩ := htxFail.1 (HostVisit.op_facing_of_op hop (by decide))
      exact (attemptEnded_eq_txDone hclient hop (by decide) htx hbo).trans hdone

/-- Settles O58, visit by visit. -/
theorem dutifulHostGetsTrueExchanges : Obligations.DutifulHostGetsTrueExchanges := by
  intro sw tw s psTime prev hs hduties v hv
  obtain ⟨hfront, hclient⟩ := hduties v hv
  exact exchangeLaw_of_duties hfront hclient

end Sys2Proof.Machine
end

section
/-! PROOF. Runs by an invariant: what a run keeps, from what each of its edges keeps, and the visits of a run. -/

namespace Sys2Proof.Machine

variable {sw tw : Nat}

/-- What every edge of a run keeps, leading on to a next state, the run keeps. -/
theorem exists_runEdges_next_of_invariant {P : State sw tw → Prop} {s : State sw tw} {es : List (Inputs sw tw)}
    (hs : P s) (hkeeps : ∀ e ∈ es, ∀ u, P u → ∃ t, edgeStep u e = .next t ∧ P t) :
    ∃ t, runEdges s es = .next t ∧ P t := by
  induction es generalizing s with
  | nil => exact ⟨s, runEdges_nil s, hs⟩
  | cons e es ih =>
    obtain ⟨hfirst, hrest⟩ := List.forall_mem_cons.1 hkeeps
    obtain ⟨t, hstep, ht⟩ := hfirst s hs
    rw [runEdges_cons_of_next hstep]
    exact ih ht hrest

/-- A fact about every visit of a run is one about the first visit and, where its edge has a next state, about the visits
of the rest. -/
theorem forall_mem_visits_cons {P : State sw tw × Inputs sw tw → Prop} {s : State sw tw} {e : Inputs sw tw}
    {es : List (Inputs sw tw)} :
    (∀ v ∈ visits s (e :: es), P v) ↔ P (s, e) ∧ ∀ t, edgeStep s e = .next t → ∀ v ∈ visits t es, P v := by
  rw [visits, List.forall_mem_cons]
  refine and_congr_right fun _ => ?_
  cases edgeStep s e <;> simp

/-- A run visits its own edges only. -/
theorem forall_mem_visits_of_forall_mem {P : Inputs sw tw → Prop} {s : State sw tw} {es : List (Inputs sw tw)}
    (h : ∀ e ∈ es, P e) : ∀ v ∈ visits s es, P v.2 := by
  induction es generalizing s with
  | nil => simp [visits]
  | cons e es ih =>
    obtain ⟨he, hes⟩ := List.forall_mem_cons.1 h
    exact forall_mem_visits_cons.2 ⟨he, fun _ _ => ih hes⟩

/-- What the visited edges of a run keep holds at each visit and at the end. -/
theorem forall_mem_visits_of_invariant {P : State sw tw → Prop} {s : State sw tw} {es : List (Inputs sw tw)} (hs : P s)
    (hkeeps : ∀ v ∈ visits s es, P v.1 → ∀ t, edgeStep v.1 v.2 = .next t → P t) :
    (∀ v ∈ visits s es, P v.1) ∧ ∀ u, runEdges s es = .next u → P u := by
  induction es generalizing s with
  | nil =>
    refine ⟨by simp [visits], fun u h => ?_⟩
    cases h
    exact hs
  | cons e es ih =>
    obtain ⟨hfirst, hrest⟩ := forall_mem_visits_cons.1 hkeeps
    have htail (t) (ht : edgeStep s e = .next t) := ih (hfirst hs t ht) (hrest t ht)
    refine ⟨forall_mem_visits_cons.2 ⟨hs, fun t ht => (htail t ht).1⟩, fun u h => ?_⟩
    obtain ⟨t, ht, hrun⟩ := edgeStep_next_of_runEdges_cons h
    exact (htail t ht).2 u hrun

/-- An operation is performed at an edge without reset whose vector selects it (R35, R81). -/
theorem State.performs_eq_some_iff {s : State sw tw} {e : Inputs sw tw} {i : Instr} :
    s.performs e = some i ↔ e.rst = false ∧ (s.facing e).op = some i := by
  cases hrst : e.rst <;> simp [State.performs, hrst]

/-- The registers alone carry a run from one state to another (R23). -/
theorem runEdges_next_of_arch_eq {s s' t : State sw tw} {es : List (Inputs sw tw)} (harch : s'.arch = s.arch)
    (h : runEdges s es = .next t) : ∃ t', runEdges s' es = .next t' ∧ t'.arch = t.arch := by
  induction es generalizing s s' with
  | nil =>
    cases h
    exact ⟨s', runEdges_nil s', harch⟩
  | cons e es ih =>
    obtain ⟨u, hu, hrun⟩ := edgeStep_next_of_runEdges_cons h
    obtain ⟨u', hu', harch'⟩ := stepAt_next_of_edgeStep (t := s'.facing e) harch hu
    rw [runEdges_cons_of_next hu']
    exact ih harch' hrun

end Sys2Proof.Machine
end

section
/-! PROOF. Reset and boot: what a held reset leaves, the first tick after it, and the run under the boot duty
(70_reset_and_hazards R82, R83, R85). -/

namespace Sys2Proof.Machine

variable {sw tw : Nat}

/-- A reset edge of a run (R81). -/
theorem edgeStep_of_rst (s : State sw tw) {e : Inputs sw tw} (h : e.rst = true) :
    edgeStep s e = .next (s.facing e).resetEdge.advance :=
  stepAt_of_rst h

/-- A reset held for several edges leaves the registers that its last edge loads, from any state (R82). -/
theorem runEdges_of_held_reset (s : State sw tw) {es : List (Inputs sw tw)} {e : Inputs sw tw}
    (hes : ∀ x ∈ es, x.rst = true) (he : e.rst = true) :
    ∃ t, runEdges s (es ++ [e]) = .next t ∧ t.arch = ⟨Phase.meas, false, e.now, freshLanes sw⟩ := by
  induction es generalizing s with
  | nil => exact ⟨_, runEdges_cons_of_next (edgeStep_of_rst s he) [], rfl⟩
  | cons x xs ih =>
    obtain ⟨hx, hxs⟩ := List.forall_mem_cons.1 hes
    rw [List.cons_append, runEdges_cons_of_next (edgeStep_of_rst s hx)]
    exact ih _ hxs

/-- Settles O12: the registers are those the last edge loads. -/
theorem heldResetTakesItsLastEdge : Obligations.HeldResetTakesItsLastEdge := by
  intro s es e hes he
  obtain ⟨t, hrun, harch⟩ := runEdges_of_held_reset s hes he
  obtain ⟨hphase, hbo, hps, hmr, -⟩ := reset_values_of_arch harch
  exact ⟨t, hrun, hphase, hbo, hps, hmr⟩

/-- A tick in MEASURING is a SAMPLE inside the window and an END_MEASURE after it (R56, R58). -/
theorem State.performs_tick_of_meas {s : State} {k : Inputs} (hphase : s.phase = Phase.meas) (htick : k.isTick = true) :
    s.performs k = some (if (k.now - s.ps).toNat < 50000 then .sample else .endMeasure) := by
  obtain ⟨hrst, hstep⟩ := Inputs.isTick_iff.1 htick
  obtain ⟨-, hsample, hendMeasure, -⟩ := operationByItsConditionInWords 16 32 (s.facing k) (by decide)
  have helapsed : (k.now - s.ps).toNat = (s.facing k).waitedMs := (s.facing k).toNat_elapsed
  rw [s.performs_of_not_rst hrst, helapsed]
  split
  case isTrue hinside => exact hsample.2 ⟨hstep, hphase, hinside⟩
  case isFalse hover => exact hendMeasure.2 ⟨hstep, hphase, Nat.le_of_not_lt hover⟩

/-- A lane at the sentinel reports 0 after any run without a SAMPLE. -/
theorem get_pay_eq_zero_of_runEdges_next {s t : State sw tw} {es : List (Inputs sw tw)} {c : Channel}
    (hlane : s.mr.get c = sentinel sw) (hnone : some .sample ∉ operations s es) (h : runEdges s es = .next t) :
    t.outputs.pay.get c = 0#_ :=
  get_pay_eq_zero_of_sentinel (get_mr_eq_sentinel_of_runEdges_next hlane (by simp [readings_eq_nil hnone c]) h)

/-- Settles O13: idle edges keep the reset registers up to the first tick, and without a SAMPLE the fresh lanes stay. -/
theorem firstTickAfterReset : Obligations.FirstTickAfterReset := by
  intro s r hr
  have hreset := edgeStep_of_rst s hr
  constructor
  · intro idles k hidles htick
    obtain ⟨t, hrun, harch⟩ := idleRunChangesNothing (s.facing r).resetEdge.advance idles hidles
    obtain ⟨hphase, -, (hps : t.ps = r.now), -⟩ := reset_values_of_arch harch
    exact ⟨t, (runEdges_cons_of_next hreset idles).trans hrun, hphase, hps ▸ State.performs_tick_of_meas hphase htick⟩
  · intro es t hrun hnone c
    rw [runEdges_cons_of_next hreset] at hrun
    rw [operations_cons_of_next hreset] at hnone
    exact get_pay_eq_zero_of_runEdges_next (get_freshLanes c) (mt (List.mem_cons_of_mem _) hnone) hrun

/-! ### The boot duty -/

/-- A run with a reset edge and no tick before it comes to the same registers from every state (R24, R79): idle edges
keep the power-up values until the reset overwrites them all, and the registers it loads carry the rest of the run. -/
theorem exists_arch_of_resetBeforeTick {hs : List (HostEdge sw tw)} (hduty : resetBeforeTick hs = true)
    (hany : (hs.any fun h => h.inputs.rst) = true) :
    ∃ a : Arch sw tw, ∀ s : State sw tw, ∃ t, runEdges s (hs.map HostEdge.inputs) = .next t ∧ t.arch = a := by
  induction hs with
  | nil => simp at hany
  | cons h hs ih =>
    cases hrst : h.inputs.rst with
    | true =>
      obtain ⟨u, hu⟩ := legalStatesRunForEver sw tw ((State.resetAt sw tw).facing h.inputs).resetEdge
        (hs.map HostEdge.inputs) (State.legal_resetEdge _)
      refine ⟨u.arch, fun s => ?_⟩
      rw [List.map_cons, runEdges_cons_of_next (edgeStep_of_rst s hrst)]
      exact runEdges_next_of_arch_eq (by rfl) hu
    | false =>
      simp only [resetBeforeTick, hrst, Bool.false_or, Bool.and_eq_true, Bool.not_eq_true'] at hduty
      obtain ⟨hstep, hduty'⟩ := hduty
      obtain ⟨a, ha⟩ := ih hduty' (by simpa [hrst] using hany)
      refine ⟨a, fun s => ?_⟩
      rw [List.map_cons, runEdges_cons_of_next (edgeStep_idle s hrst hstep)]
      exact ha _

/-- A reset edge is no tick. -/
theorem Inputs.isTick_of_rst {e : Inputs sw tw} (h : e.rst = true) : e.isTick = false := by
  simp [Inputs.isTick, h]

/-- An edge that is no tick resets or is idle. -/
theorem Inputs.rst_or_idle_of_not_isTick {e : Inputs sw tw} (h : e.isTick = false) :
    e.rst = true ∨ (e.rst = false ∧ e.step = false) := by
  cases hrst : e.rst with
  | true => exact .inl rfl
  | false => exact .inr ⟨rfl, by simpa [Inputs.isTick, hrst] using h⟩

/-- Reset edges keep the boot duty, whatever is ready (R79). -/
theorem bootDuty_of_forall_rst {hs : List (HostEdge sw tw)} (h : ∀ x ∈ hs, x.inputs.rst = true) : bootDuty hs := by
  refine ⟨?_, fun x hx htick => ?_⟩
  · cases hs with
    | nil => rfl
    | cons x xs => simp [resetBeforeTick, h x List.mem_cons_self]
  · exact absurd ((Inputs.isTick_of_rst (h x hx)).symm.trans htick) (by decide)

/-- The registers other than the timestamp hold their reset values (R22). -/
def State.HoldsResetValues (s : State sw tw) : Prop :=
  s.phase = Phase.meas ∧ s.bo = false ∧ s.mr = freshLanes sw

theorem State.holdsResetValues_resetEdge (s : State sw tw) : s.resetEdge.advance.HoldsResetValues :=
  ⟨rfl, rfl, rfl⟩

/-- An edge that is no tick keeps the reset values. -/
theorem edgeStep_keeps_resetValues {s : State sw tw} {e : Inputs sw tw} (he : e.isTick = false)
    (hs : s.HoldsResetValues) : ∃ t, edgeStep s e = .next t ∧ t.HoldsResetValues := by
  obtain hrst | ⟨hrst, hstep⟩ := Inputs.rst_or_idle_of_not_isTick he
  · exact ⟨_, edgeStep_of_rst s hrst, State.holdsResetValues_resetEdge _⟩
  · exact ⟨_, edgeStep_idle s hrst hstep, hs⟩

/-- An edge that is no tick performs reset or IDLE (R7, R70). -/
theorem State.performs_of_not_isTick (s : State sw tw) {e : Inputs sw tw} (he : e.isTick = false) :
    s.performs e = none ∨ s.performs e = some .idle := by
  obtain hrst | ⟨hrst, hstep⟩ := Inputs.rst_or_idle_of_not_isTick he
  · exact .inl (by simp [State.performs, hrst])
  · obtain ⟨hidle, -⟩ := (s.facing e).op_iff
    exact .inr (State.performs_eq_some_iff.2 ⟨hrst, hidle.2 hstep⟩)

/-- A run without ticks performs reset and IDLE only. -/
theorem operations_of_no_tick {s : State sw tw} {es : List (Inputs sw tw)} (h : ∀ e ∈ es, e.isTick = false) :
    ∀ i ∈ operations s es, i = none ∨ i = some .idle :=
  List.forall_mem_map.2 fun v hv => v.1.performs_of_not_isTick (forall_mem_visits_of_forall_mem h v hv)

/-- Settles O14: the reset forgets the power-up registers, the last reset edge of the boot loads its own `now`, and before
the boot has ended the duty allows no tick. -/
theorem bootForgetsThePowerUpState : Obligations.BootForgetsThePowerUpState := by
  refine ⟨fun sw tw hs ⟨hreset, _⟩ hany => exists_arch_of_resetBeforeTick hreset hany,
    fun sw tw s boot last horder => ?_, fun sw tw s h hs hrst hduty hnever => ?_⟩
  · obtain ⟨hboot, hlast, -⟩ := horder
    refine ⟨bootDuty_of_forall_rst ?_, ?_⟩
    · exact List.forall_mem_append.2 ⟨hboot, List.forall_mem_singleton.2 hlast⟩
    · rw [List.map_append]
      exact runEdges_of_held_reset s (List.forall_mem_map.2 hboot) hlast
  · obtain ⟨-, hplatform⟩ := hduty
    have hnoTick : ∀ e ∈ (h :: hs).map HostEdge.inputs, e.isTick = false :=
      List.forall_mem_map.2 fun x hx =>
        Bool.eq_false_iff.2 fun htick => absurd ((hnever x hx).symm.trans (hplatform x hx htick)) (by decide)
    obtain ⟨t, hrun, hphase, hbo, hmr⟩ :=
      exists_runEdges_next_of_invariant (State.holdsResetValues_resetEdge (s.facing h.inputs)) fun e he u =>
        edgeStep_keeps_resetValues (hnoTick e (List.mem_cons_of_mem _ he))
    exact ⟨t, (runEdges_cons_of_next (edgeStep_of_rst s hrst) _).trans hrun, hphase, hbo, hmr,
      operations_of_no_tick hnoTick⟩

end Sys2Proof.Machine
end

section
/-! PROOF. Hazards: the payload between END_MEASURE and TX_OK, and an outcome still reported at an attempt's first tick
(70_reset_and_hazards R86, R87). -/

namespace Sys2Proof.Machine

variable {sw tw : Nat}

/-- The register file holds `m` in a phase that samples nothing. -/
def State.HoldsPayload (s : State sw tw) (m : Lanes (Sample sw)) : Prop :=
  s.phase ≠ Phase.meas ∧ s.mr = m

/-- An END_MEASURE edge leaves the register file, and MEASURING (R58). -/
theorem holdsPayload_of_endMeasure {s t : State sw tw} {e : Inputs sw tw} (hop : s.performs e = some .endMeasure)
    (h : edgeStep s e = .next t) : t.HoldsPayload s.mr := by
  obtain ⟨hrst, hop⟩ := State.performs_eq_some_iff.1 hop
  obtain ⟨hphase, -, -, hmr⟩ := arch_of_op (s := s.facing e) hrst hop h
  exact ⟨by simp [hphase], by simpa using hmr⟩

/-- Only reset and TX_OK lead back to MEASURING, and outside it nothing else writes the register file (R86). -/
theorem holdsPayload_of_edgeStep_next {s t : State sw tw} {e : Inputs sw tw} {m : Lanes (Sample sw)}
    (hs : s.HoldsPayload m) (hrst : e.rst = false) (hop : s.performs e ≠ some .txOk) (h : edgeStep s e = .next t) :
    t.HoldsPayload m := by
  obtain ⟨hphase, hmr⟩ := hs
  obtain ⟨i, hi⟩ := decode_isSome (s.facing e).dv
  have htxOk : i ≠ .txOk := fun heq => hop (State.performs_eq_some_iff.2 ⟨hrst, heq ▸ hi⟩)
  have hsample : i ≠ .sample := by
    rintro rfl
    obtain ⟨-, hsample, -⟩ := (s.facing e).op_iff
    obtain ⟨-, hmeas, -⟩ := hsample.1 hi
    exact hphase hmeas
  obtain ⟨hphase', -, -, hmr'⟩ := arch_of_op (s := s.facing e) hrst hi h
  rw [if_neg htxOk] at hphase'
  rw [if_neg htxOk, if_neg hsample, State.mr_facing, hmr] at hmr'
  refine ⟨?_, hmr'⟩
  rw [hphase']
  split_ifs
  · decide
  · decide
  · exact hphase

/-- The payload ports show the register file alone (R51). -/
theorem pay_outputs_eq_of_mr_eq {s t : State sw tw} (h : t.mr = s.mr) : t.outputs.pay = s.outputs.pay :=
  congrArg (Lanes.map pay) h

/-- Settles O51: the END_MEASURE edge leaves the register file outside MEASURING, where every edge up to TX_OK keeps it. -/
theorem payloadIsStableThroughTheCycle : Obligations.PayloadIsStableThroughTheCycle := by
  intro s t e es hop hstep hrst hfill
  have hkept := forall_mem_visits_of_invariant (P := (State.HoldsPayload · s.mr)) (es := es)
    (holdsPayload_of_endMeasure hop hstep) fun v hv hs u => holdsPayload_of_edgeStep_next hs
      (forall_mem_visits_of_forall_mem hrst v hv) fun htxOk => hfill (List.mem_map.2 ⟨v, hv, htxOk⟩)
  obtain ⟨hvisits, hend⟩ := hkept
  refine ⟨fun v hv => ?_, fun u hu => ?_⟩
  · obtain ⟨-, hmr⟩ := hvisits v hv
    exact ⟨hmr, pay_outputs_eq_of_mr_eq hmr⟩
  · obtain ⟨-, hmr⟩ := hend u hu
    exact ⟨hmr, pay_outputs_eq_of_mr_eq hmr⟩

/-- From a legal state END_SETTLE and BO_END begin an attempt (R60, R61, R67). -/
theorem txReq_of_endSettle_or_boEnd {s t : State sw tw} {e : Inputs sw tw} (hs : s.Legal)
    (hop : s.performs e = some .endSettle ∨ s.performs e = some .boEnd) (h : edgeStep s e = .next t) :
    t.arch.txReq = true := by
  obtain ⟨-, -, -, -, hendSettle, -, -, -, -, hboEnd, -⟩ := (s.facing e).op_iff
  rw [State.performs_eq_some_iff, State.performs_eq_some_iff] at hop
  rw [Arch.txReq_iff]
  obtain ⟨hrst, hop⟩ | ⟨hrst, hop⟩ := hop
  · obtain ⟨hphase, hbo, -⟩ := arch_of_op (s := s.facing e) hrst hop h
    obtain ⟨-, hsettling, -⟩ := hendSettle.1 hop
    have hdown : s.bo = false := bo_eq_false_of_legal (s := s.facing e) hs (by simp only [hsettling]; decide)
    exact ⟨hphase, hbo.trans hdown⟩
  · obtain ⟨hphase, hbo, -⟩ := arch_of_op (s := s.facing e) hrst hop h
    obtain ⟨-, htx, -⟩ := hboEnd.1 hop
    exact ⟨hphase.trans htx, hbo⟩

/-- A tick of an attempt with `tx_done` takes the outcome that `tx_ok` reports (R62, R63). -/
theorem State.performs_outcome {s : State sw tw} {k : Inputs sw tw} (hreq : s.arch.txReq = true)
    (htick : k.isTick = true) (hdone : k.txDone = true) :
    s.performs k = some (if k.txOk then .txOk else .txFail) := by
  obtain ⟨hrst, hstep⟩ := Inputs.isTick_iff.1 htick
  obtain ⟨htx, hbo⟩ := s.arch.txReq_iff.1 hreq
  obtain ⟨-, -, -, -, -, -, htxOk, htxFail, -⟩ := (s.facing k).op_iff
  rw [s.performs_of_not_rst hrst]
  cases hok : k.txOk with
  | true => exact htxOk.2 ⟨hstep, htx, hbo, hdone, hok⟩
  | false => exact htxFail.2 ⟨hstep, htx, hbo, hdone, hok⟩

/-- Settles O56: the edge begins an attempt, whose first tick finds `tx_done` at 1. -/
theorem staleOutcomeIsTaken : Obligations.StaleOutcomeIsTaken :=
  fun _ _ _ _ hs hop hstep htick hdone =>
    State.performs_outcome (txReq_of_endSettle_or_boEnd hs hop hstep) htick hdone

end Sys2Proof.Machine
end
